-- ==== Sys2Proof/Word.lean ====
section
/-! DEFINITION. The word types of the block: bytes, 16-bit and 32-bit unsigned words, and byte buffers
(00_scope.md R9; every value of the block is unsigned, R106). -/

namespace Sys2Proof

/-- `W8`, a byte (R9). -/
abbrev Byte := BitVec 8

/-- `W16`, an unsigned 16-bit word (R9). -/
abbrev W16 := BitVec 16

/-- `W32`, an unsigned 32-bit word (R9). -/
abbrev W32 := BitVec 32

/-- A byte buffer: a finite sequence of bytes, index 0 first, carrying its own length (R9, R57). -/
abbrev Bytes := List Byte

end Sys2Proof
end

