-- ==== Sys2Proof/Config.lean ====
section
/-! DEFINITION. What an implementation fixes (`CFG`, 00_scope.md R7) and the free values of the model. The opaque
constants have no body, so no proof can learn their values. -/

namespace Sys2Proof

/-- The order of the four bytes inside a half of an 8-byte slice: `CFG.block_order` (20_memory.md R33, D7). -/
inductive BlockOrder where
  | big
  | little
deriving DecidableEq, Repr, Inhabited

/-- `CFG.len_mask`: the only two legal values (30_encoding.md R51, D8). -/
inductive LenMask where
  /-- `0x7FFF`, the default of R7. -/
  | low15
  /-- `0x07FF`. -/
  | low11
deriving DecidableEq, Repr

/-- `CFG`, the configuration record: every row of R7 that is not fixed. No command changes it (10_state.md R15). -/
structure Cfg where
  /-- `CFG.block_order`: open, no default. -/
  blockOrder : BlockOrder
  /-- `CFG.len_mask`: open. -/
  lenMask : LenMask
  /-- `CFG.p_init`: the value R82 loads into the subkey array. Its given value is the table of R90 (`Machine.pInit`),
  which a claim names as a hypothesis (D21). -/
  pInit : Vector W32 18
  /-- `CFG.s_init`: the value R82 loads into the substitution tables; its given value is that of R91
  (`Machine.sInit`). -/
  sInit : Vector (Vector W32 256) 4
  /-- Which checksum unit, with which seed, answers `CFG.calc` (43_framer.md R131): a name, so that the record stays
  plain data. The function it stands for is `Cfg.calc` (log 7). -/
  calcUnit : Nat
deriving DecidableEq, Repr

namespace Config

/-- The answer of a checksum unit: a total function of the whole frame and of nothing else (43_framer.md R131, D11).
Uninterpreted, for every unit (DESIGN CHOICE, log 7; safe). -/
opaque calculate (unit : Nat) : Bytes → Byte

/-- The checksum unit of the block at `State.reset`: open (DESIGN CHOICE, log 7; safe). -/
opaque calcUnit : Nat

/-- `CFG.block_order` as the block at `State.reset` has it: R7 gives no default, so it is left open
(DESIGN CHOICE, log 5; safe). -/
opaque blockOrder : BlockOrder

/-- What `P` holds after the reset event number `epoch`, where the spec says "no value" (R21, R220): a free
value (DESIGN CHOICE, log 4; unsafe). -/
opaque noValueP (epoch : Nat) : Vector W32 18

/-- What `S` holds after the reset event number `epoch`: a free value (DESIGN CHOICE, log 4; unsafe). -/
opaque noValueS (epoch : Nat) : Vector (Vector W32 256) 4

/-- The result of the host's modular exponentiation for a modulus of 0 or 1, which the source does not say
(44_host_context.md R154, N25): a free value (DESIGN CHOICE, log 18; safe). -/
opaque modExpEdge (base modulus : W32) : W32

/-- The four 32-bit outputs of the host's SecurityCounter mixing of a seed, whose recurrence the source does not
give exactly (44_host_context.md R145, N22): a free value (DESIGN CHOICE, log 18; safe). -/
opaque securityMix (seed : W32) : Vector W32 4

end Config

/-- `CFG.calc` (R7, D11): the total function from byte sequences to bytes that the configured unit answers. -/
def Cfg.calc (c : Cfg) : Bytes → Byte := Config.calculate c.calcUnit

end Sys2Proof
end

