-- ==== Sys2Proof/Syntax.lean ====
section
/-! DEFINITION. The commands of the block: the raw command of the port (an opcode byte and an operand record,
30_encoding.md R55, R57) and the eight instructions with their typed operands, one constructor for each row of
opcode_table.json. -/

namespace Sys2Proof

/-- One command of the opcode map (R56) with the operands R57 gives it. Every value of every operand is legal
syntax (R59: "Operand values are never illegal in themselves"). -/
inductive Instr where
  /-- `0x01`, `INIT(key)` (40_cipher_keyschedule.md R80). -/
  | init (key : Bytes)
  /-- `0x02`, `ENCIPHER(left, right)` (42_cipher_block.md R99). -/
  | encipher (left right : W32)
  /-- `0x03`, `DECIPHER(left, right)` (R100). -/
  | decipher (left right : W32)
  /-- `0x04`, `XFORM_ENC(buf)` (R103). -/
  | xformEnc (buf : Bytes)
  /-- `0x05`, `XFORM_DEC(buf)` (R104). -/
  | xformDec (buf : Bytes)
  /-- `0x08`, `ENCODE(id, encrypted, payload, securityByte, checksumByte)` (43_framer.md R121). -/
  | encode (id : W16) (encrypted : Bool) (payload : Bytes) (securityByte checksumByte : Byte)
  /-- `0x09`, `DECODE(lengthWord, idWord, count, checksum, payload)` (R126). -/
  | decode (lengthWord idWord : W16) (count checksum : Byte) (payload : Bytes)
  /-- `0x0F`, `STATUS()` (10_state.md R19). -/
  | status
deriving DecidableEq, Repr

/-- The operand record of the command port: one lane for each operand name of R57, each command reading the
lanes R57 gives it and no other (DESIGN CHOICE, log 2; safe). A lane at its default is idle. -/
structure OperandRecord where
  key          : Bytes := []
  left         : W32 := 0
  right        : W32 := 0
  buf          : Bytes := []
  id           : W16 := 0
  encrypted    : Bool := false
  payload      : Bytes := []
  securityByte : Byte := 0
  checksumByte : Byte := 0
  lengthWord   : W16 := 0
  idWord       : W16 := 0
  count        : Byte := 0
  checksum     : Byte := 0
deriving DecidableEq, Repr

/-- A raw command: "an 8-bit opcode and an operand record" (R55). -/
structure Command where
  opcode   : Byte
  operands : OperandRecord
deriving DecidableEq, Repr

/-- What the decoder makes of a raw command: an instruction, or an opcode outside the map of R56, named. -/
inductive Decoded where
  | instr (i : Instr)
  | illegal (opcode : Byte)
deriving DecidableEq, Repr

/-- What the host does to the block between two commands: it presents a command, or it applies reset (R23,
R220). -/
inductive PortEvent where
  | command (c : Command)
  | reset
deriving DecidableEq, Repr

/-- The result record of a command that completes (R57). -/
inductive Results where
  /-- INIT: no results. -/
  | none
  /-- ENCIPHER, DECIPHER: `left'`, `right'`. -/
  | block (left right : W32)
  /-- XFORM_ENC, XFORM_DEC: `out`. -/
  | out (out : Bytes)
  /-- ENCODE: `frame`. -/
  | frame (frame : Bytes)
  /-- DECODE: the packet's three fields (43_framer.md R120). -/
  | packet (id : W16) (encrypted : Bool) (payload : Bytes)
  /-- STATUS: `sw`. -/
  | status (sw : W16)
deriving DecidableEq, Repr

/-- A response: status `OK` with results, or a fault code with no results at all (R58). -/
inductive Response where
  | ok (results : Results)
  | fault (code : Byte)
deriving DecidableEq, Repr

end Sys2Proof
end

