-- ==== Sys2Proof/Machine/State.lean ====
section
/-! DEFINITION. The state of the block as plain data, the state after reset, and the two stop types. The spec's
architectural state is `P`, `S`, `keyed` and `fault` (10_state.md R10); the other fields are the model's own. -/

namespace Sys2Proof.Machine

/-- The faults of the block and their causes (60_exceptions.md R190); `Machine/Ops.lean` gives the codes. -/
inductive FaultName where
  /-- INIT with a key outside 4 to 56 bytes (R192). -/
  | invalidKey
  /-- XFORM_ENC, XFORM_DEC with a length not a multiple of 8 (R193). -/
  | invalidBlockLength
  /-- DECODE with a length mismatch, ENCODE with a payload past the mask (R194). -/
  | framingError
  /-- The host's, never raised by the block (R198). -/
  | protocolViolation
  /-- The host's, never raised by the block (R198). -/
  | authenticationFailed
  /-- A cipher data command while `keyed = 0` (R195). -/
  | notKeyed
  /-- An opcode outside the map (R197). -/
  | illegalCommand
deriving DecidableEq, Repr

/-- The contents of the two cipher arrays: the subkey array (R11) and the substitution tables (R12). -/
structure Schedule where
  P : Vector W32 18
  S : Vector (Vector W32 256) 4
deriving DecidableEq, Repr

/-- The block, its configuration, and its command port. -/
structure State where
  /-- The subkey array `P[0]` to `P[17]` (R11). -/
  P : Vector W32 18
  /-- The substitution tables `S[0]` to `S[3]`, 256 entries each (R12). -/
  S : Vector (Vector W32 256) 4
  /-- 1 when `P` and `S` hold a completed key schedule (R13). -/
  keyed : Bool
  /-- 0, or the code of the first fault raised since reset (R14). -/
  fault : Byte
  /-- `CFG`, fixed for the life of the block (R7, R15); not architectural state (log 8). -/
  cfg : Cfg
  /-- The model's own: what the host has presented and the block has not yet taken, oldest first (log 1). -/
  port : List PortEvent
  /-- The model's own: the response of the last command, none when no command was answered since reset (log 3). -/
  response : Option Response
  /-- The model's own: how many reset events were taken; selects the free values of `P` and `S` (log 4). -/
  resets : Nat
deriving DecidableEq, Repr

/-- The block right after reset, with nothing presented at its port (70_reset_and_hazards.md R222): `keyed` and
`fault` are 0, `P` and `S` hold no value (free values, log 4), the length mask is R7's default (log 6), the
initial tables have their given values (R90, R91; log 9), and the block order and the checksum unit are left open
(logs 5 and 7). -/
def State.reset : State where
  P := Config.noValueP 0
  S := Config.noValueS 0
  keyed := false
  fault := 0
  cfg :=
    { blockOrder := Config.blockOrder, lenMask := .low15, pInit := pInit, sInit := sInit,
      calcUnit := Config.calcUnit }
  port := []
  response := none
  resets := 0

/-- The reasons the machine stops: none. Every fault of the spec is latched and answered and the block goes on
(R191), and the block "itself never halts" (R237), so no rule raises a stop (log 13; safe). -/
inductive Fault
deriving DecidableEq, Repr

/-- The reasons a step has no meaning. -/
inductive Refusal where
  /-- Raised by an arm of `exec` for an instruction without a meaning; no arm does so now. Safe: it stops where
  the block goes on. -/
  | notModelled (mnemonic : String)
deriving DecidableEq, Repr

end Sys2Proof.Machine
end

