-- ==== Sys2Proof/Machine/Operands.lean ====
section
/-! DEFINITION. How bytes make up words and words bytes: the byte orders of 20_memory.md section 2 and
30_encoding.md section 2, the key chunks, the halves of a slice, and the fields of a frame's header. -/

namespace Sys2Proof.Machine

/-- `be32(b0,b1,b2,b3) = b0<<24 | b1<<16 | b2<<8 | b3` (R9). -/
def be32 (b0 b1 b2 b3 : Byte) : W32 := b0 ++ b1 ++ b2 ++ b3

/-- `le32(b0,b1,b2,b3) = b3<<24 | b2<<16 | b1<<8 | b0` (R9). -/
def le32 (b0 b1 b2 b3 : Byte) : W32 := b3 ++ b2 ++ b1 ++ b0

/-- `le16(b0,b1) = b1<<8 | b0` (R9). -/
def le16 (b0 b1 : Byte) : W16 := b1 ++ b0

/-- Byte `j` of a half, `j = 0` the most significant: `b0 = x[31:24]`, ..., `b3 = x[7:0]` (R60). -/
def byteOfHalf (x : W32) (j : Fin 4) : Byte := x.extractLsb' (24 - 8 * j.val) 8

/-- `bytes_be32(w)`: most significant byte first (R9). -/
def bytesBe32 (w : W32) : Bytes := [byteOfHalf w 0, byteOfHalf w 1, byteOfHalf w 2, byteOfHalf w 3]

/-- `bytes_le32(w)`: the same four in the reverse order (R9). -/
def bytesLe32 (w : W32) : Bytes := [byteOfHalf w 3, byteOfHalf w 2, byteOfHalf w 1, byteOfHalf w 0]

/-- `bytes_le16(h)` is `h[7:0], h[15:8]` (R9). -/
def bytesLe16 (h : W16) : Bytes := [h.extractLsb' 0 8, h.extractLsb' 8 8]

/-- One half from its four bytes in the order of `CFG.block_order` (R33). -/
def halfOfBytes (order : BlockOrder) (b0 b1 b2 b3 : Byte) : W32 :=
  match order with
  | .big => be32 b0 b1 b2 b3
  | .little => le32 b0 b1 b2 b3

/-- The four bytes of one half in the order of `CFG.block_order` (R33). -/
def bytesOfHalf (order : BlockOrder) (w : W32) : Bytes :=
  match order with
  | .big => bytesBe32 w
  | .little => bytesLe32 w

/-- `unhalves(l, r)`: the left half's bytes, then the right half's (R33, R103). -/
def unhalves (order : BlockOrder) (halves : W32 × W32) : Bytes :=
  bytesOfHalf order halves.1 ++ bytesOfHalf order halves.2

/-- Key byte `(4i + j) mod n` of a key of `n` bytes (R61). The default 0 is never read: INIT refuses the empty
key before any chunk is evaluated (R81), and for `n > 0` the index is below `n` (log 17). -/
def keyByteAt (key : Bytes) (i j : Nat) : Byte := key.getD ((4 * i + j) % key.length) 0

/-- Key chunk `i`: four successive key bytes, cyclically, first byte most significant (R31, R61). -/
def chunk (key : Bytes) (i : Nat) : W32 :=
  be32 (keyByteAt key i 0) (keyByteAt key i 1) (keyByteAt key i 2) (keyByteAt key i 3)

/-- The value of `CFG.len_mask` (R7). -/
def maskWord (m : LenMask) : W16 :=
  match m with
  | .low15 => 0x7FFF
  | .low11 => 0x07FF

/-- `length = lengthWord & CFG.len_mask` (R51), as a count of bytes. -/
def lengthField (m : LenMask) (lengthWord : W16) : Nat := (lengthWord &&& maskWord m).toNat

/-- `encrypted = lengthWord[15]` (R51). -/
def encryptedFlag (lengthWord : W16) : Bool := lengthWord.getLsbD 15

/-- `lengthWord <- n | (encrypted << 15)` (R121, R123). -/
def makeLengthWord (n : Nat) (encrypted : Bool) : W16 :=
  BitVec.ofNat 16 n ||| (if encrypted then 0x8000 else 0)

end Sys2Proof.Machine
end

