-- ==== Sys2Proof/Machine/Cipher.lean ====
section
/-! DEFINITION. The cipher's functions: `F`, the block functions `Enc` and `Dec` (42_cipher_block.md), and the
buffer transform over 8-byte slices. They read the arrays and write nothing. -/

namespace Sys2Proof.Machine

/-- Entry of table `k` selected by one byte of a half (R12, R95). -/
def tableEntry (S : Vector (Vector W32 256) 4) (k : Fin 4) (b : Byte) : W32 := (S.get k).get b.toFin

/-- The round function (R95): `F(x) = ((S[0][b0] + S[1][b1]) xor S[2][b2]) + S[3][b3]`, both additions modulo
2^32 (R106, GK4). -/
def roundF (S : Vector (Vector W32 256) 4) (x : W32) : W32 :=
  ((tableEntry S 0 (byteOfHalf x 0) + tableEntry S 1 (byteOfHalf x 1))
    ^^^ tableEntry S 2 (byteOfHalf x 2)) + tableEntry S 3 (byteOfHalf x 3)

/-- The sixteen rounds in order (R97). -/
def rounds : List (Fin 18) := [1, 2, 3, 4, 5, 6, 7, 8, 9, 10, 11, 12, 13, 14, 15, 16]

/-- One round of `Enc` on `(l, r)` (R97): an odd round updates the right half from `F` of the left, an even round
the left half from `F` of the right; round `n` uses `P[n]`. -/
def encRound (k : Schedule) (lr : W32 × W32) (n : Fin 18) : W32 × W32 :=
  if n.val % 2 = 1 then (lr.1, lr.2 ^^^ (roundF k.S lr.1 ^^^ k.P.get n))
  else (lr.1 ^^^ (roundF k.S lr.2 ^^^ k.P.get n), lr.2)

/-- `Enc(l, r)` (R97): `P[0]` into the left half, rounds 1 to 16, `P[17]` into the right half, and the halves
exchanged (GK2; 90_conflicts.md C1). -/
def enc (k : Schedule) (lr : W32 × W32) : W32 × W32 :=
  let m := rounds.foldl (encRound k) (lr.1 ^^^ k.P.get 0, lr.2)
  (m.2 ^^^ k.P.get 17, m.1)

/-- One round of `Dec` on `(l, r)` (R98): an odd round updates the left half, an even round the right. -/
def decRound (k : Schedule) (lr : W32 × W32) (n : Fin 18) : W32 × W32 :=
  if n.val % 2 = 1 then (lr.1 ^^^ (roundF k.S lr.2 ^^^ k.P.get n), lr.2)
  else (lr.1, lr.2 ^^^ (roundF k.S lr.1 ^^^ k.P.get n))

/-- `Dec(l, r)` (R98): `P[17]` into the left half, rounds 16 down to 1, `P[0]` into the right half, and the halves
exchanged (90_conflicts.md C2). -/
def dec (k : Schedule) (lr : W32 × W32) : W32 × W32 :=
  let m := rounds.reverse.foldl (decRound k) (lr.1 ^^^ k.P.get 17, lr.2)
  (m.2 ^^^ k.P.get 0, m.1)

/-- One round of the equivalent form of R102: XOR the subkey into the left half, `F` of it into the right, and
exchange. -/
def swapRound (k : Schedule) (lr : W32 × W32) (n : Fin 18) : W32 × W32 :=
  let l := lr.1 ^^^ k.P.get n
  (lr.2 ^^^ roundF k.S l, l)

/-- The equivalent loop form of `Enc` in which the halves are exchanged in every round (R102). R97, that is `enc`,
is the normative one; no command calls this form. -/
def encSwapEveryRound (k : Schedule) (lr : W32 × W32) : W32 × W32 :=
  let m := [0, 1, 2, 3, 4, 5, 6, 7, 8, 9, 10, 11, 12, 13, 14, 15].foldl (swapRound k) lr
  (m.2 ^^^ k.P.get 17, m.1 ^^^ k.P.get 16)

/-- Apply a block function to each contiguous 8-byte slice on its own (R103, R104): bytes 0 to 3 of a slice are
the left half, 4 to 7 the right (R33). Fewer than eight bytes left over give nothing; the length check keeps that
from happening in a command (log 17). -/
def xform (order : BlockOrder) (f : W32 × W32 → W32 × W32) : Bytes → Bytes
  | b0 :: b1 :: b2 :: b3 :: b4 :: b5 :: b6 :: b7 :: rest =>
    unhalves order (f (halfOfBytes order b0 b1 b2 b3, halfOfBytes order b4 b5 b6 b7)) ++ xform order f rest
  | _ => []

end Sys2Proof.Machine
end

