-- ==== Sys2Proof/WellFormed.lean ====
section
/-! DEFINITION. When a raw command is well formed. An instruction is always well formed, since operand values
are never illegal in themselves and their widths are types (30_encoding.md R59). A raw command is well formed
when its opcode is in the map of R56 and every operand lane that R57 does not give that opcode is idle. This is
written from R56 and R57 apart from the decoder, so that the two can be held against each other. The block itself
runs a command with busy unused lanes (they are not read), so nothing of a run rests on this check. -/

namespace Sys2Proof

/-- The opcode is one of the eight of R56. -/
def Command.opcodeListed (c : Command) : Bool :=
  [0x01, 0x02, 0x03, 0x04, 0x05, 0x08, 0x09, 0x0F].contains c.opcode.toNat

/-- The operand record with only the lanes that R57 gives the opcode. -/
def Command.namedLanes (c : Command) : OperandRecord :=
  let o := c.operands
  match c.opcode.toNat with
  | 0x01 => { key := o.key }
  | 0x02 => { left := o.left, right := o.right }
  | 0x03 => { left := o.left, right := o.right }
  | 0x04 => { buf := o.buf }
  | 0x05 => { buf := o.buf }
  | 0x08 => { id := o.id, encrypted := o.encrypted, payload := o.payload,
              securityByte := o.securityByte, checksumByte := o.checksumByte }
  | 0x09 => { lengthWord := o.lengthWord, idWord := o.idWord, count := o.count,
              checksum := o.checksum, payload := o.payload }
  | _ => {}

/-- The lanes the opcode does not name are idle. -/
def Command.otherLanesIdle (c : Command) : Bool :=
  decide (c.operands = c.namedLanes)

/-- A well-formed raw command: listed opcode, unused lanes idle. -/
def Command.wellFormed (c : Command) : Bool :=
  c.opcodeListed && c.otherLanesIdle

end Sys2Proof
end

