-- ==== Sys2Proof/Decode.lean ====
section
/-! DEFINITION. The decoder, total on every raw command, and after it the encoder, both from the opcode map and
the operand records of 30_encoding.md R56 and R57. -/

namespace Sys2Proof

/-- Decode a raw command by the opcode map R56, each instruction taking the operands R57 names; any other opcode
is illegal and no operand is looked at (R59, R197). -/
def decode (c : Command) : Decoded :=
  let o := c.operands
  match c.opcode.toNat with
  | 0x01 => .instr (.init o.key)
  | 0x02 => .instr (.encipher o.left o.right)
  | 0x03 => .instr (.decipher o.left o.right)
  | 0x04 => .instr (.xformEnc o.buf)
  | 0x05 => .instr (.xformDec o.buf)
  | 0x08 => .instr (.encode o.id o.encrypted o.payload o.securityByte o.checksumByte)
  | 0x09 => .instr (.decode o.lengthWord o.idWord o.count o.checksum o.payload)
  | 0x0F => .instr .status
  | _ => .illegal c.opcode

/-- The raw command of an instruction: its opcode (R56) and its operands on their lanes (R57), every other lane
idle. -/
def encode (i : Instr) : Command :=
  match i with
  | .init key => ⟨0x01, { key := key }⟩
  | .encipher left right => ⟨0x02, { left := left, right := right }⟩
  | .decipher left right => ⟨0x03, { left := left, right := right }⟩
  | .xformEnc buf => ⟨0x04, { buf := buf }⟩
  | .xformDec buf => ⟨0x05, { buf := buf }⟩
  | .encode id encrypted payload securityByte checksumByte =>
      ⟨0x08, { id := id, encrypted := encrypted, payload := payload,
               securityByte := securityByte, checksumByte := checksumByte }⟩
  | .decode lengthWord idWord count checksum payload =>
      ⟨0x09, { lengthWord := lengthWord, idWord := idWord, count := count,
               checksum := checksum, payload := payload }⟩
  | .status => ⟨0x0F, {}⟩

/-- The raw command whose command word is the low byte of `w`, with every operand lane idle (the table gives
operands no bits; log 16). -/
def commandOfWord (w : Nat) : Command :=
  ⟨BitVec.ofNat 8 w, {}⟩

/-- The instruction read from a command word of `nbits` bits with value `w`. The command word is one byte and
has one length only (R55), so any other width, or a value past it, is refused. -/
def decodeTableWord (nbits w : Nat) : Option Instr :=
  if nbits = 8 ∧ w < 256 then
    match decode (commandOfWord w) with
    | .instr i => some i
    | .illegal _ => none
  else none

end Sys2Proof
end

