-- ==== Sys2Proof/Machine/Ops.lean ====
section
/-! DEFINITION. The operations every command goes through: answering, raising a fault, the refusal while a fault
is latched, the `keyed` check, installing a key schedule, the reset event, and taking the next event from the
port. -/

namespace Sys2Proof.Machine

/-- The outcome of one step of this machine. -/
abbrev Result := Host.Outcome State Fault Refusal

/-- The fault codes (60_exceptions.md R190). -/
def FaultName.code (f : FaultName) : Byte :=
  match f with
  | .invalidKey => 0x01
  | .invalidBlockLength => 0x02
  | .framingError => 0x03
  | .protocolViolation => 0x04
  | .authenticationFailed => 0x05
  | .notKeyed => 0x10
  | .illegalCommand => 0x11

/-- The status byte of a response: `0x00` (`OK`), or the fault code (R58). -/
def responseStatus (r : Response) : Byte :=
  match r with
  | .ok _ => 0x00
  | .fault code => code

/-- Give the response to the host; the port holds it until the next one (R58, log 3). -/
def State.respond (s : State) (r : Response) : State := { s with response := some r }

/-- A command completes: status `OK` with its results (R58). -/
def State.deliver (s : State) (r : Results) : State := s.respond (.ok r)

/-- Fault entry (R191): no result is delivered, `P`, `S` and `keyed` stay as they were, `fault` takes the code and
the response carries it. Control is back with the host: there is no handler, no vector and no mode. -/
def State.raise (s : State) (f : FaultName) : State :=
  { s with fault := f.code, response := some (.fault f.code) }

/-- Refusal while faulted (R196): nothing is checked or computed, `fault` keeps the first code, and the response
carries it. -/
def State.refuseLatched (s : State) : State := s.respond (.fault s.fault)

/-- Write a completed key schedule and set `keyed` (R84, R85). -/
def State.install (s : State) (k : Schedule) : State := { s with P := k.P, S := k.S, keyed := true }

/-- The contents of `P` and `S` together. -/
def State.schedule (s : State) : Schedule := ⟨s.P, s.S⟩

/-- The first check of every command but STATUS (R201, 1): while `fault` is not 0 the command is refused with the
latched code; otherwise it runs. -/
def unlessFaulted (s : State) (run : State → State) : Result :=
  if s.fault = 0 then .next (run s) else .next s.refuseLatched

/-- The check of the cipher data commands (R96; R201, 3): with `keyed = 0` they raise `NotKeyed`. -/
def whenKeyed (s : State) (run : State → State) : State :=
  if s.keyed then run s else s.raise .notKeyed

/-- An opcode outside the map: refused while a fault is latched, otherwise `IllegalCommand`; no operand is looked
at and nothing but `fault` changes (R197; R201, 1 and 2). -/
def illegalCommand (s : State) : Result :=
  unlessFaulted s fun s => s.raise .illegalCommand

/-- The reset event (70_reset_and_hazards.md R220), the only way out of a fault (R203): `keyed` and `fault` become
0, `P` and `S` lose their values (each takes the free value of the new epoch, log 4), `CFG` is not touched, and
the port holds no response (log 3). -/
def State.applyReset (s : State) : State :=
  { s with
    P := Config.noValueP (s.resets + 1)
    S := Config.noValueS (s.resets + 1)
    keyed := false
    fault := 0
    response := none
    resets := s.resets + 1 }

/-- What the block finds at its port when it takes the next event. -/
inductive Taken where
  /-- Nothing is presented: the block never acts unprompted (R23). -/
  | idle
  /-- The reset event. -/
  | reset
  /-- A command of the map. -/
  | instr (i : Instr)
  /-- An opcode outside the map. -/
  | illegal
deriving DecidableEq, Repr

/-- Take the oldest event from the port, decoding a command (R38, R39), and the state without it. -/
def takeEvent (s : State) : Taken × State :=
  match s.port with
  | [] => (.idle, s)
  | .reset :: rest => (.reset, { s with port := rest })
  | .command c :: rest =>
    match decode c with
    | .instr i => (.instr i, { s with port := rest })
    | .illegal _ => (.illegal, { s with port := rest })

end Sys2Proof.Machine
end

