-- ==== Sys2Proof/Machine/BlockCipher.lean ====
section
/-! DEFINITION. The cipher data commands ENCIPHER, DECIPHER, XFORM_ENC and XFORM_DEC (42_cipher_block.md). They
read `P`, `S`, `keyed`, and write no state when they succeed. -/

namespace Sys2Proof.Machine

/-- The length of a buffer to transform is a multiple of 8, 0 included (R35). -/
def wholeBlocks (buf : Bytes) : Bool := decide (buf.length % 8 = 0)

/-- The common form of ENCIPHER and DECIPHER (R99, R100): `keyed` check, then the block function on the two
words; no byte order is involved (R34). -/
def runBlock (f : Schedule → W32 × W32 → W32 × W32) (left right : W32) (s : State) : Result :=
  unlessFaulted s fun s => whenKeyed s fun s =>
    let out := f s.schedule (left, right)
    s.deliver (.block out.1 out.2)

/-- The common form of XFORM_ENC and XFORM_DEC (R103, R104): `keyed` check, then the length check, then every
slice; on a fault nothing is delivered (R201). -/
def runXform (f : Schedule → W32 × W32 → W32 × W32) (buf : Bytes) (s : State) : Result :=
  unlessFaulted s fun s => whenKeyed s fun s =>
    if wholeBlocks buf then s.deliver (.out (xform s.cfg.blockOrder (f s.schedule) buf))
    else s.raise .invalidBlockLength

/-- `ENCIPHER(left, right)` (R99). -/
def execEncipher (left right : W32) (s : State) : Result := runBlock enc left right s

/-- `DECIPHER(left, right)` (R100). -/
def execDecipher (left right : W32) (s : State) : Result := runBlock dec left right s

/-- `XFORM_ENC(buf)` (R103). -/
def execXformEnc (buf : Bytes) (s : State) : Result := runXform enc buf s

/-- `XFORM_DEC(buf)` (R104). -/
def execXformDec (buf : Bytes) (s : State) : Result := runXform dec buf s

end Sys2Proof.Machine
end

