-- ==== Sys2Proof/Machine/Framer.lean ====
section
/-! DEFINITION. The framer: ENCODE and DECODE (43_framer.md). It holds no state and reads neither `P`, `S` nor
`keyed` (10_state.md R16). -/

namespace Sys2Proof.Machine

/-- The frame as laid out before the checksum is inserted (R123; offsets of 30_encoding.md R50): length word, id,
security count, the placeholder `checksumByte` (D10), payload. -/
def frameWithPlaceholder (id : W16) (encrypted : Bool) (payload : Bytes) (securityByte checksumByte : Byte) : Bytes :=
  bytesLe16 (makeLengthWord payload.length encrypted) ++ bytesLe16 id ++ [securityByte, checksumByte] ++ payload

/-- The frame ENCODE returns: byte 5 replaced by one evaluation of the checksum function over the whole frame,
placeholder included (R124). -/
def buildFrame (calculate : Bytes → Byte) (id : W16) (encrypted : Bool) (payload : Bytes)
    (securityByte checksumByte : Byte) : Bytes :=
  let frame := frameWithPlaceholder id encrypted payload securityByte checksumByte
  frame.set 5 (calculate frame)

/-- `ENCODE` (R121): `FramingError` when the payload is longer than `CFG.len_mask` (R122), otherwise the frame. -/
def execEncode (id : W16) (encrypted : Bool) (payload : Bytes) (securityByte checksumByte : Byte)
    (s : State) : Result :=
  unlessFaulted s fun s =>
    if payload.length ≤ (maskWord s.cfg.lenMask).toNat then
      s.deliver (.frame (buildFrame s.cfg.calc id encrypted payload securityByte checksumByte))
    else s.raise .framingError

/-- `DECODE` (R126): `FramingError` unless the payload has the length the length word says; otherwise the packet,
the payload as given. `count` and `checksum` are accepted and discarded (R127, D12). -/
def execDecode (lengthWord idWord : W16) (_count _checksum : Byte) (payload : Bytes) (s : State) : Result :=
  unlessFaulted s fun s =>
    if payload.length = lengthField s.cfg.lenMask lengthWord then
      s.deliver (.packet idWord (encryptedFlag lengthWord) payload)
    else s.raise .framingError

end Sys2Proof.Machine
end

