-- ==== Sys2Proof/Machine/KeySchedule.lean ====
section
/-! DEFINITION. The key schedule and INIT, the one command that writes the cipher state
(40_cipher_keyschedule.md). -/

namespace Sys2Proof.Machine

/-- The key is legal when it has 4 to 56 bytes (R81). -/
def keyLegal (key : Bytes) : Bool := decide (4 ≤ key.length ∧ key.length ≤ 56)

/-- The arrays after `CFG.p_init` and `CFG.s_init` are loaded and the key is XORed into the subkey array (R82, R83,
R92); `S` is the initial tables, untouched by the key. -/
def keyedConstants (cfg : Cfg) (key : Bytes) : Schedule :=
  { P := Vector.ofFn fun i : Fin 18 => cfg.pInit.get i ^^^ chunk key i.val, S := cfg.sInit }

/-- A pair of entries that one encryption of INIT replaces (R84): `(P[2i], P[2i+1])` or `(S[k][2i], S[k][2i+1])`. -/
inductive EntryPair where
  | subkeys (i : Fin 9)
  | table (k : Fin 4) (i : Fin 128)
deriving DecidableEq, Repr

/-- Store an encryption's output over a pair: left output to the even entry, right output to the odd (R84). -/
def storePair (k : Schedule) (e : EntryPair) (lr : W32 × W32) : Schedule :=
  match e with
  | .subkeys i => { k with P := (k.P.set (2 * i.val) lr.1).set (2 * i.val + 1) lr.2 }
  | .table t i => { k with S := k.S.set t.val (((k.S.get t).set (2 * i.val) lr.1).set (2 * i.val + 1) lr.2) }

/-- The 521 pairs in order (R84): the subkey array first, then each of the four tables in order. -/
def entryPairs : List EntryPair :=
  (List.finRange 9).map .subkeys ++
  (List.finRange 128).map (.table 0) ++ (List.finRange 128).map (.table 1) ++
  (List.finRange 128).map (.table 2) ++ (List.finRange 128).map (.table 3)

/-- One of the 521 replacements (R84): encipher the running block with the arrays as they stand now (R40), keep
the output as the new running block, and store it over the pair. -/
def replacePair (kb : Schedule × (W32 × W32)) (e : EntryPair) : Schedule × (W32 × W32) :=
  let out := enc kb.1 kb.2
  (storePair kb.1 e out, out)

/-- The completed key schedule of a key under a configuration (R82 to R84), of which it reads `p_init` and `s_init`
alone (R86 (c)): the running block starts as the all-zero block. Irreducible
for the elaborator, so that no unifier runs the 521 encryptions; the kernel still computes it. -/
@[irreducible] def keySchedule (cfg : Cfg) (key : Bytes) : Schedule :=
  (entryPairs.foldl replacePair (keyedConstants cfg key, (0, 0))).1

/-- `INIT(key)` (R80): `InvalidKey` before any write when the key is not 4 to 56 bytes (R81); otherwise the key
schedule is built and `keyed` set (R85). No results. -/
def execInit (key : Bytes) (s : State) : Result :=
  unlessFaulted s fun s =>
    if keyLegal key then (s.install (keySchedule s.cfg key)).deliver .none
    else s.raise .invalidKey

end Sys2Proof.Machine
end

