-- ==== Sys2Proof/Machine/Flags.lean ====
section
/-! DEFINITION. The status word. The block has no condition codes (10_state.md R18): the only flags are `keyed`
and `fault`, and the only computation over them is the word STATUS returns (R19). -/

namespace Sys2Proof.Machine

/-- The 16-bit status word: bits 7:0 `fault`, bit 8 `keyed`, bits 15:9 zero (R19). -/
def statusWord (keyed : Bool) (fault : Byte) : W16 :=
  (0 : BitVec 7) ++ BitVec.ofBool keyed ++ fault

end Sys2Proof.Machine
end

