-- ==== Sys2Proof/Machine/Status.lean ====
section
/-! DEFINITION. STATUS, the one status read (10_state.md R19). -/

namespace Sys2Proof.Machine

/-- `STATUS() -> sw` (R19): never faults, is never refused, and changes nothing but the response on the port. -/
def execStatus (s : State) : Result := .next (s.deliver (.status (statusWord s.keyed s.fault)))

end Sys2Proof.Machine
end

