-- ==== Sys2Proof/Machine/Dispatch.lean ====
section
/-! DEFINITION. The dispatch of an instruction to its meaning, one arm for each constructor. -/

namespace Sys2Proof.Machine

def exec (i : Instr) (s : State) : Host.Outcome State Fault Refusal :=
  match i with
  | .init key => Sys2Proof.Machine.execInit key s
  | .encipher left right => Sys2Proof.Machine.execEncipher left right s
  | .decipher left right => Sys2Proof.Machine.execDecipher left right s
  | .xformEnc buf => Sys2Proof.Machine.execXformEnc buf s
  | .xformDec buf => Sys2Proof.Machine.execXformDec buf s
  | .encode id encrypted payload securityByte checksumByte => Sys2Proof.Machine.execEncode id encrypted payload securityByte checksumByte s
  | .decode lengthWord idWord count checksum payload => Sys2Proof.Machine.execDecode lengthWord idWord count checksum payload s
  | .status => Sys2Proof.Machine.execStatus s

end Sys2Proof.Machine
end

