-- ==== Sys2Proof/Machine/Step.lean ====
section
/-! DEFINITION. One step of the block: take the next event from the port and run it to its end (20_memory.md R38;
10_state.md R23). -/

namespace Sys2Proof.Machine

/-- One step. With nothing at the port the block waits and its state stays (R23, R237; log 10). -/
def step (s : State) : Host.Outcome State Fault Refusal :=
  match takeEvent s with
  | (.idle, s') => .next s'
  | (.reset, s') => .next s'.applyReset
  | (.instr i, s') => exec i s'
  | (.illegal, s') => illegalCommand s'

/-- The state with the command whose command word is `w` presented at the head of the port, every operand lane
idle, so that the next step runs it (log 1, log 16). -/
def State.withFetchWord (s : State) (nbits w : Nat) : State :=
  let _ := nbits
  { s with port := .command (commandOfWord w) :: s.port }

end Sys2Proof.Machine
end

