-- ==== Sys2Proof/Machine/Wire.lean ====
section
/-! DEFINITION. The wire frame as a reader of the byte stream sees it (30_encoding.md R52, R63) and the
pseudo-commands, each an abbreviation with a fixed expansion into commands (R65). No step of the block calls
these: the host cuts frames and issues the expansions. -/

namespace Sys2Proof.Machine

/-- The length of the frame that begins with these two bytes (R52): `6 + (le16(frame[0], frame[1]) & len_mask)`. -/
def wireFrameLength (m : LenMask) (b0 b1 : Byte) : Nat := 6 + lengthField m (le16 b0 b1)

/-- The operands of DECODE as cut from a frame (R63). -/
structure FrameFields where
  lengthWord : W16
  idWord     : W16
  count      : Byte
  checksum   : Byte
  payload    : Bytes
deriving DecidableEq, Repr

/-- `FrameSplit(f)` (R63). A sequence shorter than the 6 header bytes is no frame. -/
def frameSplit (f : Bytes) : Option FrameFields :=
  match f with
  | l0 :: l1 :: i0 :: i1 :: count :: checksum :: payload =>
      some { lengthWord := le16 l0 l1, idWord := le16 i0 i1, count := count,
             checksum := checksum, payload := payload }
  | _ => none

/-- The DECODE command on the fields of a split frame (R63, R65). -/
def decodeOfFields (f : FrameFields) : Instr :=
  .decode f.lengthWord f.idWord f.count f.checksum f.payload

/-- The direction operand of `TRANSFORM` (R65). -/
inductive Direction where
  | enc
  | dec
deriving DecidableEq, Repr

/-- `TRANSFORM dir=.. buf=..` (R65). -/
def expandTransform (dir : Direction) (buf : Bytes) : Instr :=
  match dir with
  | .enc => .xformEnc buf
  | .dec => .xformDec buf

/-- `REKEY key=..`: INIT, issued while `keyed = 1` (R65). -/
def expandRekey (key : Bytes) : Instr := .init key

/-- `SEND id=.. payload=.. sec=.. ck=..`: a plain ENCODE (R65). -/
def expandSend (id : W16) (payload : Bytes) (sec ck : Byte) : Instr := .encode id false payload sec ck

/-- `SEND_ENC`: XFORM_ENC, then ENCODE with `encrypted = 1` on its result (R65, R130). When the first command
faults there is no result to frame and the host issues nothing more (log 19). -/
def runSendEnc (id : W16) (payload : Bytes) (sec ck : Byte) (s : State) : Result :=
  match exec (.xformEnc payload) s with
  | .next t =>
    match t.response with
    | some (.ok (.out c)) => exec (.encode id true c sec ck) t
    | _ => .next t
  | r => r

/-- `RECV frame=..`: FrameSplit, DECODE, then XFORM_DEC of the payload when `encrypted = 1` (R65, R130). For a
sequence too short to be a frame no command is issued (log 19). -/
def runRecv (frame : Bytes) (s : State) : Result :=
  match frameSplit frame with
  | none => .next s
  | some f =>
    match exec (decodeOfFields f) s with
    | .next t =>
      match t.response with
      | some (.ok (.packet _ true payload)) => exec (.xformDec payload) t
      | _ => .next t
    | r => r

end Sys2Proof.Machine
end

