-- ==== Sys2Proof/Safety.lean ====
section
/-! DEFINITION. What counts as a sound state of the block, and the conditions under which a command completes, in
the terms the statements use. -/

namespace Sys2Proof.Machine

/-- The block can raise these codes and no others (60_exceptions.md R190, R198). -/
def blockCodes : List Byte :=
  [FaultName.code .invalidKey, FaultName.code .invalidBlockLength, FaultName.code .framingError,
   FaultName.code .notKeyed, FaultName.code .illegalCommand]

/-- The invariant of every run: what the rules promise of `keyed`, `fault` and the response together, whatever the
commands were. -/
structure BlockInv (s : State) : Prop where
  /-- `fault` is 0 or a code the block can raise, never one of the host's (R190, R198). -/
  faultKnown : s.fault = 0 ∨ s.fault ∈ blockCodes
  /-- `keyed` says that `P` and `S` hold the completed schedule of some legal key under `CFG` (R13, R81). -/
  keyedMeansSchedule : s.keyed = true → ∃ key, keyLegal key = true ∧ s.schedule = keySchedule s.cfg key
  /-- `NotKeyed` is latched only on an unkeyed block: nothing keys it afterwards (R195, R196). -/
  notKeyedLatch : s.fault = FaultName.code .notKeyed → s.keyed = false
  /-- `InvalidBlockLength` is latched only on a keyed block: the `keyed` check comes first (R201). -/
  blockLengthLatch : s.fault = FaultName.code .invalidBlockLength → s.keyed = true
  /-- A fault code in a response is the latched code, and is not `OK` (R58, R191, R196). That the response is still
  there after the command, and gone after the reset event, is the model's choice (log 3). -/
  responseLatched : ∀ c, s.response = some (.fault c) → s.fault = c ∧ c ≠ 0

/-- The cipher data commands, which need a completed INIT (R96). -/
def needsKey (i : Instr) : Bool :=
  match i with
  | .init _ => false
  | .encipher _ _ => true
  | .decipher _ _ => true
  | .xformEnc _ => true
  | .xformDec _ => true
  | .encode _ _ _ _ _ => false
  | .decode _ _ _ _ _ => false
  | .status => false

/-- The state of the block apart from the cipher arrays: two states that agree here may differ in `P` and `S`
only. -/
def State.sameButSchedule (s t : State) : Prop :=
  s.keyed = t.keyed ∧ s.fault = t.fault ∧ s.cfg = t.cfg ∧ s.port = t.port ∧
    s.response = t.response ∧ s.resets = t.resets

/-- Slice `j` of a buffer as two halves: bytes `8j` to `8j+3` the left, `8j+4` to `8j+7` the right (R33). A byte past
the end reads 0 here; the statements use it for slices inside the buffer only. -/
def sliceHalves (order : BlockOrder) (buf : Bytes) (j : Nat) : W32 × W32 :=
  (halfOfBytes order (buf.getD (8 * j) 0) (buf.getD (8 * j + 1) 0) (buf.getD (8 * j + 2) 0) (buf.getD (8 * j + 3) 0),
   halfOfBytes order (buf.getD (8 * j + 4) 0) (buf.getD (8 * j + 5) 0) (buf.getD (8 * j + 6) 0)
     (buf.getD (8 * j + 7) 0))

end Sys2Proof.Machine
end

