-- ==== Sys2Proof/Certificates/Slice0/Obligations.lean ====
section
/-! DEFINITION. The statements for the provers. Each docstring names the rule of spec/ it formalises; where a
statement rests on a choice of the model, it names the log entry. `next { s with … }` gives the whole next state, so
it states the frame as well: every field not named is unchanged. -/

open Sys2Proof Sys2Proof.Machine

/-! ## Reset, the port, the invariant -/

/-- R13, R14, R19, R222: after reset `keyed = 0`, `fault = 0` and STATUS would read 0000. -/
def Obligations.ResetLeavesUnkeyedUnfaulted : Prop :=
  State.reset.keyed = false ∧ State.reset.fault = 0 ∧
    statusWord State.reset.keyed State.reset.fault = 0x0000

/-- The invariant holds right after reset. -/
def Obligations.ResetMeetsBlockInv : Prop := BlockInv State.reset

/-- Every step keeps the invariant, from every state that meets it (R13, R190, R191, R195, R196, R198, R201). The clause
`responseLatched` speaks of the response between commands and after the reset event: that the port holds the response
until the next command answers, and none after the reset event, is the model's choice (log 3). -/
def Obligations.StepKeepsBlockInv : Prop :=
  ∀ s t : State, BlockInv s → step s = .next t → BlockInv t

/-- R220: the reset event clears `keyed` and `fault`, whether or not a fault is latched, and leaves `CFG` alone.
Nothing of the arrays, of `keyed` or of `fault` survives it: two blocks that differ in these alone leave the event in
the same state. That the port holds no response after it is the model's choice (log 3), and that the arrays hold free
values the model's reading of "loses its value" (log 4). -/
def Obligations.ResetEventForgetsEverything : Prop :=
  ∀ (s : State) (rest : List PortEvent), s.port = .reset :: rest →
    ∃ t, step s = .next t ∧ t.keyed = false ∧ t.fault = 0 ∧ t.cfg = s.cfg ∧ t.port = rest ∧ t.response = none ∧
      ∀ (P : Vector W32 18) (S : Vector (Vector W32 256) 4) (keyed : Bool) (fault : Byte)
        (response : Option Response),
        step { s with P := P, S := S, keyed := keyed, fault := fault, response := response } = .next t

/-- A step runs the decoded command: it takes the command off the port and is `exec` of the instruction at the state
that remains (R38, R39). -/
def Obligations.StepRunsDecodedCommand : Prop :=
  ∀ (s : State) (c : Command) (rest : List PortEvent) (i : Instr),
    s.port = .command c :: rest → decode c = .instr i → step s = exec i { s with port := rest }

/-- R23: the block never acts unprompted: with nothing at its port a step leaves the state as it was (that waiting is a
step of its own, and that the response stays on the port meanwhile, are the model's choices, logs 10 and 3). -/
def Obligations.UnpromptedBlockStays : Prop :=
  ∀ s : State, s.port = [] → step s = .next s

/-- R236, R191: every issued command gets its response, whatever the state, and no step stops the block (R237). -/
def Obligations.EveryCommandIsAnswered : Prop :=
  (∀ (i : Instr) (s : State), ∃ t r, exec i s = .next t ∧ t.response = some r) ∧
  (∀ s : State, ∃ t, step s = .next t) ∧
  (∀ (s : State) (c : Command) (rest : List PortEvent), s.port = .command c :: rest →
    ∃ t r, step s = .next t ∧ t.response = some r ∧ t.port = rest)

/-- R15 (a): no step changes the configuration. -/
def Obligations.StepKeepsConfiguration : Prop :=
  ∀ s t : State, step s = .next t → t.cfg = s.cfg

/-! ## Encoding -/

/-- Decode and encode agree: every instruction, with every operand, decodes from its encoding, which is well formed;
every well-formed raw command is the encoding of the one instruction it decodes to (R55, R56, R57). -/
def Obligations.DecodeEncodeAgree : Prop :=
  (∀ i : Instr, decode (encode i) = .instr i ∧ (encode i).wellFormed = true) ∧
  (∀ c : Command, c.wellFormed = true → ∃ i, decode c = .instr i ∧ encode i = c)

/-- The command words of R56, written out, decode to their commands (operand lanes idle), and some unlisted words do
not decode. -/
def Obligations.CommandWordsDecode : Prop :=
  decodeTableWord 8 0b00000001 = some (.init []) ∧
  decodeTableWord 8 0b00000010 = some (.encipher 0 0) ∧
  decodeTableWord 8 0b00000011 = some (.decipher 0 0) ∧
  decodeTableWord 8 0b00000100 = some (.xformEnc []) ∧
  decodeTableWord 8 0b00000101 = some (.xformDec []) ∧
  decodeTableWord 8 0b00001000 = some (.encode 0 false [] 0 0) ∧
  decodeTableWord 8 0b00001001 = some (.decode 0 0 0 0 []) ∧
  decodeTableWord 8 0b00001111 = some .status ∧
  decodeTableWord 8 0b00000000 = none ∧ decodeTableWord 8 0b00000110 = none ∧
  decodeTableWord 8 0b00000111 = none ∧ decodeTableWord 8 0b00001010 = none ∧
  decodeTableWord 8 0b00010000 = none ∧ decodeTableWord 8 0b11111111 = none

/-- R197: an opcode outside the map of R56, on a block with no fault latched, raises `IllegalCommand`; no operand is
looked at and nothing but `fault` (and the response) changes. -/
def Obligations.IllegalOpcodeRaises : Prop :=
  ∀ (s : State) (c : Command) (rest : List PortEvent),
    s.port = .command c :: rest → s.fault = 0 →
    c.opcode.toNat ∉ [0x01, 0x02, 0x03, 0x04, 0x05, 0x08, 0x09, 0x0F] →
    step s = .next { s with port := rest, fault := 0x11, response := some (.fault 0x11) }

/-! ## Faults -/

/-- R196: while a fault is latched every command but STATUS, legal or illegal, is refused: nothing changes but the
port and the response, which carries the latched code. -/
def Obligations.FaultedBlockRefuses : Prop :=
  ∀ (s : State) (c : Command) (rest : List PortEvent),
    s.port = .command c :: rest → s.fault ≠ 0 → c.opcode ≠ 0x0F →
    step s = .next { s with port := rest, response := some (.fault s.fault) }

/-- R191: a command, legal or illegal, that ends in a fault leaves everything but `fault` and the response as it was
when the command was taken, and both carry the same code. -/
def Obligations.FaultsArePrecise : Prop :=
  ∀ (s t : State) (c : Command) (rest : List PortEvent) (code : Byte),
    s.port = .command c :: rest → step s = .next t → t.response = some (.fault code) →
    t = { s with port := rest, fault := code, response := some (.fault code) }

/-- From R58 and R191: the status byte of a response is 0 exactly when the command completed with results; otherwise it
is the byte latched in `fault` and there are no results. Which codes a run can latch is BlockInv's clause `faultKnown`,
and which results each command answers its own statements say. -/
def Obligations.StatusByteTellsFault : Prop :=
  ∀ (s t : State) (c : Command) (rest : List PortEvent),
    s.port = .command c :: rest → step s = .next t →
    ∃ r, t.response = some r ∧ (responseStatus r = 0 ↔ ∃ results, r = .ok results) ∧
      (responseStatus r ≠ 0 → responseStatus r = t.fault ∧ ∀ results, r ≠ .ok results)

/-- R14, R203: a latched fault stays, with its first code, until the reset event; and `fault` leaves 0 only for a code
the block can raise, which the response then carries. -/
def Obligations.FaultLatchedUntilReset : Prop :=
  ∀ s t : State, step s = .next t →
    (s.fault ≠ 0 → t.fault = s.fault ∨ (t.fault = 0 ∧ ∃ rest, s.port = .reset :: rest)) ∧
    (s.fault = 0 → t.fault = 0 ∨ (t.fault ∈ blockCodes ∧ t.response = some (.fault t.fault)))

/-- A command issued twice in a row leaves the same state as once: R41 where it succeeds, R86 (b) for INIT; a faulting
one leaves the state as it was (R191) and the second is refused with the code the first latched (R196), as one refused
is refused again; STATUS answers alike on a faulted block (R19). -/
def Obligations.CommandTwiceIsCommandOnce : Prop :=
  ∀ (i : Instr) (s t : State), exec i s = .next t → exec i t = .next t

/-! ## Status -/

/-- R19: STATUS answers in every state, faulted or not, and changes nothing but the response; bits 7:0 of the word are
`fault`, bit 8 is `keyed`, bits 15:9 are 0. -/
def Obligations.StatusReadsFaultAndKeyed : Prop :=
  ∀ s : State, ∃ sw : W16,
    exec .status s = .next { s with response := some (.ok (.status sw)) } ∧
    (∀ j : Nat, j < 8 → sw.getLsbD j = s.fault.getLsbD j) ∧ sw.getLsbD 8 = s.keyed ∧
    (∀ j : Nat, 9 ≤ j → sw.getLsbD j = false)

/-! ## The key schedule and INIT -/

/-- R61 (and R31): chunk `i` of a nonempty key is the big-endian word of the key bytes at `4i`, `4i+1`, `4i+2`, `4i+3`,
each index modulo the key's length. -/
def Obligations.KeyChunkIsCyclicBigEndian : Prop :=
  ∀ (key : Bytes) (i : Nat) (h : 0 < key.length),
    (chunk key i).toNat =
      (key[(4 * i) % key.length]'(Nat.mod_lt _ h)).toNat * 2 ^ 24 +
      (key[(4 * i + 1) % key.length]'(Nat.mod_lt _ h)).toNat * 2 ^ 16 +
      (key[(4 * i + 2) % key.length]'(Nat.mod_lt _ h)).toNat * 2 ^ 8 +
      (key[(4 * i + 3) % key.length]'(Nat.mod_lt _ h)).toNat

/-- R82, R83, R84: the schedule comes from a chain of 521 replacements. It starts with `CFG.p_init` and `CFG.s_init`, the
key XORed into the subkey array, and the all-zero running block. Each link enciphers the running block with the arrays as that link
finds them, and stores the left word over the even and the right word over the odd entry of the next pair: subkey
pairs 0 to 8, then pair `(j - 9) % 128` of table `(j - 9) / 128`; every other entry stays. -/
def Obligations.ScheduleChainsEncryptions : Prop :=
  ∀ (cfg : Cfg) (key : Bytes), ∃ arrays : Nat → Schedule, ∃ block : Nat → W32 × W32,
    (∀ i : Fin 18, (arrays 0).P.get i = cfg.pInit.get i ^^^ chunk key i.val) ∧ (arrays 0).S = cfg.sInit ∧
    block 0 = (0, 0) ∧
    (∀ j, j < 521 → block (j + 1) = enc (arrays j) (block j)) ∧
    (∀ j, j < 521 → ∀ i : Fin 18, (arrays (j + 1)).P.get i =
      if i.val = 2 * j then (block (j + 1)).1
      else if i.val = 2 * j + 1 then (block (j + 1)).2
      else (arrays j).P.get i) ∧
    (∀ j, j < 521 → ∀ (k : Fin 4) (i : Fin 256), ((arrays (j + 1)).S.get k).get i =
      if 9 ≤ j ∧ k.val = (j - 9) / 128 ∧ i.val = 2 * ((j - 9) % 128) then (block (j + 1)).1
      else if 9 ≤ j ∧ k.val = (j - 9) / 128 ∧ i.val = 2 * ((j - 9) % 128) + 1 then (block (j + 1)).2
      else ((arrays j).S.get k).get i) ∧
    keySchedule cfg key = arrays 521

/-- R86 (a): under one configuration the schedule is a function of the 18 chunks alone; a nonempty key and the key repeated twice give the same
schedule. -/
def Obligations.ScheduleDependsOnChunksOnly : Prop :=
  (∀ (cfg : Cfg) (key key' : Bytes), (∀ i, i < 18 → chunk key i = chunk key' i) →
    keySchedule cfg key = keySchedule cfg key') ∧
  (∀ (cfg : Cfg) (key : Bytes), key ≠ [] → keySchedule cfg (key ++ key) = keySchedule cfg key)

/-- R80, R84, R85: INIT with a key of 4 to 56 bytes on a block with no fault latched answers OK with no results; `P` and
`S` hold the key's schedule, `keyed` is 1, and nothing else changes. -/
def Obligations.InitInstallsSchedule : Prop :=
  ∀ (key : Bytes) (s : State), s.fault = 0 → 4 ≤ key.length → key.length ≤ 56 →
    exec (.init key) s = .next { s with P := (keySchedule s.cfg key).P, S := (keySchedule s.cfg key).S, keyed := true, response := some (.ok .none) }

/-- R192 (and R81): INIT, on a block with no fault latched, fails with `InvalidKey` exactly when the key is outside 32 to
448 bits, and then nothing but `fault` and the response changes. -/
def Obligations.InitRefusesWrongKeyLength : Prop :=
  ∀ (key : Bytes) (s : State), s.fault = 0 →
    ((8 * key.length < 32 ∨ 448 < 8 * key.length) →
      exec (.init key) s = .next { s with fault := 0x01, response := some (.fault 0x01) }) ∧
    (32 ≤ 8 * key.length → 8 * key.length ≤ 448 →
      ∃ t, exec (.init key) s = .next t ∧ t.fault = 0 ∧ t.response = some (.ok .none))

/-- R82, R85: an INIT on a keyed block discards the first key entirely: after a second successful INIT the block is as if
the first had not been. -/
def Obligations.SecondInitDiscardsFirstKey : Prop :=
  ∀ (key key' : Bytes) (s t : State), s.fault = 0 → 4 ≤ key.length → key.length ≤ 56 →
    exec (.init key) s = .next t → 4 ≤ key'.length → key'.length ≤ 56 →
    exec (.init key') t = exec (.init key') s

/-- R11, R12, R13, R22: a step changes `P`, `S` or `keyed` only when it takes an INIT with a legal key on a block with no
fault latched, or the reset event. -/
def Obligations.OnlyInitAndResetWriteArrays : Prop :=
  ∀ s t : State, step s = .next t →
    (t.P = s.P ∧ t.S = s.S ∧ t.keyed = s.keyed) ∨
    (∃ c rest key, s.port = .command c :: rest ∧ decode c = .instr (.init key) ∧ s.fault = 0 ∧
      4 ≤ key.length ∧ key.length ≤ 56 ∧ t.schedule = keySchedule s.cfg key ∧ t.keyed = true) ∨
    (∃ rest, s.port = .reset :: rest)

/-- R21: while `keyed = 0` no command can tell what `P` and `S` hold: two blocks that differ there alone answer alike and
still differ there alone. -/
def Obligations.UnkeyedArraysAreUnobservable : Prop :=
  ∀ (i : Instr) (s s' : State), s.keyed = false → s.sameButSchedule s' →
    ∃ t t', exec i s = .next t ∧ exec i s' = .next t' ∧ t.sameButSchedule t' ∧
      (t.keyed = true → t = t')

/-! ## The block functions -/

/-- R95: `F(x)` adds the entries of `S[0]` and `S[1]` selected by the two most significant bytes of `x`, XORs that of
`S[2]`, and adds that of `S[3]` selected by the least significant byte, each addition modulo 2^32. -/
def Obligations.RoundFunctionOfTableBytes : Prop :=
  ∀ (S : Vector (Vector W32 256) 4) (x : W32),
    (roundF S x).toNat =
      ((((S[0].toList.getD (x.toNat / 2 ^ 24) 0).toNat
          + (S[1].toList.getD (x.toNat / 2 ^ 16 % 256) 0).toNat) % 2 ^ 32
        ^^^ (S[2].toList.getD (x.toNat / 2 ^ 8 % 256) 0).toNat)
        + (S[3].toList.getD (x.toNat % 256) 0).toNat) % 2 ^ 32

/-- R101: for every content of the arrays, `Dec` and `Enc` invert each other, so `Enc` is a permutation of the blocks. -/
def Obligations.EncAndDecAreInverse : Prop :=
  ∀ k : Schedule, (∀ lr, dec k (enc k lr) = lr) ∧ (∀ lr, enc k (dec k lr) = lr) ∧ Function.Bijective (enc k)

/-- R102: the form in which the halves are exchanged in every round computes the same function. -/
def Obligations.EncIsSwapEveryRoundForm : Prop :=
  ∀ (k : Schedule) (lr : W32 × W32), encSwapEveryRound k lr = enc k lr

/-- R98: `Dec` is `Enc` with every `P[i]` replaced by `P[17-i]`. -/
def Obligations.DecIsEncWithReversedSubkeys : Prop :=
  ∀ (k : Schedule) (lr : W32 × W32), dec k lr = enc { k with P := k.P.reverse } lr

/-! ## ENCIPHER, DECIPHER -/

/-- R99, R100: on a keyed block with no fault latched ENCIPHER answers `Enc` of its operands and DECIPHER answers `Dec`,
in the given order of the halves, and nothing else changes. -/
def Obligations.BlockCommandsAnswer : Prop :=
  ∀ (s : State) (left right : W32), s.fault = 0 → s.keyed = true →
    exec (.encipher left right) s =
      .next { s with response := some (.ok (.block (enc ⟨s.P, s.S⟩ (left, right)).1 (enc ⟨s.P, s.S⟩ (left, right)).2)) } ∧
    exec (.decipher left right) s =
      .next { s with response := some (.ok (.block (dec ⟨s.P, s.S⟩ (left, right)).1 (dec ⟨s.P, s.S⟩ (left, right)).2)) }

/-- R100, R101: DECIPHER of what ENCIPHER answered gives the operands back, and the block is otherwise as it was. -/
def Obligations.DecipherUndoesEncipher : Prop :=
  ∀ (s : State) (left right : W32), s.fault = 0 → s.keyed = true →
    ∃ t left' right', exec (.encipher left right) s = .next t ∧ t.response = some (.ok (.block left' right')) ∧
      exec (.decipher left' right') t = .next { s with response := some (.ok (.block left right)) }

/-- R96 (and R195): each cipher data command on an unkeyed block with no fault latched raises `NotKeyed` and delivers
nothing, whatever its operands (so also before the length check of XFORM, R201). -/
def Obligations.UnkeyedDataCommandsRaise : Prop :=
  ∀ (i : Instr) (s : State),
    ((∃ left right, i = .encipher left right) ∨ (∃ left right, i = .decipher left right) ∨
      (∃ buf, i = .xformEnc buf) ∨ (∃ buf, i = .xformDec buf)) →
    s.fault = 0 → s.keyed = false →
    exec i s = .next { s with fault := 0x10, response := some (.fault 0x10) }

/-! ## XFORM -/

/-- R33: with `big` the first byte of a half is its most significant, with `little` its least; writing a half back gives
the bytes it was read from; and the left half comes from, and goes back to, the first four bytes. -/
def Obligations.HalvesFollowBlockOrder : Prop :=
  (∀ b0 b1 b2 b3 : Byte,
    (halfOfBytes .big b0 b1 b2 b3).toNat =
      b0.toNat * 2 ^ 24 + b1.toNat * 2 ^ 16 + b2.toNat * 2 ^ 8 + b3.toNat ∧
    (halfOfBytes .little b0 b1 b2 b3).toNat =
      b3.toNat * 2 ^ 24 + b2.toNat * 2 ^ 16 + b1.toNat * 2 ^ 8 + b0.toNat) ∧
  (∀ (order : BlockOrder) (b0 b1 b2 b3 b4 b5 b6 b7 : Byte),
    unhalves order (halfOfBytes order b0 b1 b2 b3, halfOfBytes order b4 b5 b6 b7) =
      [b0, b1, b2, b3, b4, b5, b6, b7])

/-- R103: XFORM_ENC on a keyed block with no fault latched and a buffer of whole blocks answers a buffer of the same
length whose slice `j` is `Enc` of slice `j`, for both byte orders, and changes nothing else; on a keyed block any other
length raises `InvalidBlockLength`; on an unkeyed block it raises `NotKeyed` whatever the length. -/
def Obligations.XformEncTransformsSlices : Prop :=
  ∀ (s : State) (buf : Bytes), s.fault = 0 →
    (s.keyed = true → buf.length % 8 = 0 →
      ∃ out : Bytes, exec (.xformEnc buf) s = .next { s with response := some (.ok (.out out)) } ∧
        out.length = buf.length ∧
        ∀ j, j < buf.length / 8 →
          (out.drop (8 * j)).take 8 =
            unhalves s.cfg.blockOrder (enc ⟨s.P, s.S⟩ (sliceHalves s.cfg.blockOrder buf j))) ∧
    (s.keyed = true → buf.length % 8 ≠ 0 →
      exec (.xformEnc buf) s = .next { s with fault := 0x02, response := some (.fault 0x02) }) ∧
    (s.keyed = false →
      exec (.xformEnc buf) s = .next { s with fault := 0x10, response := some (.fault 0x10) })

/-- R104: XFORM_DEC, the same with `Dec` in place of `Enc`; same checks in the same order, same faults, same use of the
block order. -/
def Obligations.XformDecTransformsSlices : Prop :=
  ∀ (s : State) (buf : Bytes), s.fault = 0 →
    (s.keyed = true → buf.length % 8 = 0 →
      ∃ out : Bytes, exec (.xformDec buf) s = .next { s with response := some (.ok (.out out)) } ∧
        out.length = buf.length ∧
        ∀ j, j < buf.length / 8 →
          (out.drop (8 * j)).take 8 =
            unhalves s.cfg.blockOrder (dec ⟨s.P, s.S⟩ (sliceHalves s.cfg.blockOrder buf j))) ∧
    (s.keyed = true → buf.length % 8 ≠ 0 →
      exec (.xformDec buf) s = .next { s with fault := 0x02, response := some (.fault 0x02) }) ∧
    (s.keyed = false →
      exec (.xformDec buf) s = .next { s with fault := 0x10, response := some (.fault 0x10) })

/-- R105 (c): XFORM_DEC of what XFORM_ENC answered gives the buffer back, and the other way about, for either byte
order. -/
def Obligations.XformRoundTrips : Prop :=
  ∀ (s : State) (buf : Bytes), s.fault = 0 → s.keyed = true → buf.length % 8 = 0 →
    (∃ t out, exec (.xformEnc buf) s = .next t ∧ t.response = some (.ok (.out out)) ∧
      exec (.xformDec out) t = .next { s with response := some (.ok (.out buf)) }) ∧
    (∃ t out, exec (.xformDec buf) s = .next t ∧ t.response = some (.ok (.out out)) ∧
      exec (.xformEnc out) t = .next { s with response := some (.ok (.out buf)) })

/-- R105 (d): a transform of a concatenation is the concatenation of the transforms, when the first part is whole
blocks. -/
def Obligations.XformOfConcatenation : Prop :=
  ∀ (order : BlockOrder) (f : W32 × W32 → W32 × W32) (a b : Bytes), a.length % 8 = 0 →
    xform order f (a ++ b) = xform order f a ++ xform order f b

/-- R105 (f): the little-endian transform is the big-endian one between two reversals of each group of four bytes
(`rev4` is any function on buffers that does this slice by slice). -/
def Obligations.XformByteOrdersAgree : Prop :=
  ∀ (rev4 : Bytes → Bytes), rev4 [] = [] →
    (∀ (b0 b1 b2 b3 b4 b5 b6 b7 : Byte) (rest : Bytes),
      rev4 (b0 :: b1 :: b2 :: b3 :: b4 :: b5 :: b6 :: b7 :: rest) =
        b3 :: b2 :: b1 :: b0 :: b7 :: b6 :: b5 :: b4 :: rev4 rest) →
    ∀ (f : W32 × W32 → W32 × W32) (buf : Bytes), buf.length % 8 = 0 →
      xform .little f buf = rev4 (xform .big f (rev4 buf))

/-- R105 (e): a value enciphered as words agrees with the value enciphered as its `CFG.block_order` bytes (R34). -/
def Obligations.XformAgreesWithEncipher : Prop :=
  ∀ (s : State) (left right : W32), s.fault = 0 → s.keyed = true →
    ∃ left' right',
      exec (.encipher left right) s = .next { s with response := some (.ok (.block left' right')) } ∧
      exec (.xformEnc (unhalves s.cfg.blockOrder (left, right))) s =
        .next { s with response := some (.ok (.out (unhalves s.cfg.blockOrder (left', right')))) }

/-! ## The framer -/

/-- R123, R124: for a payload that fits the mask, ENCODE on a block with no fault latched answers a frame with length word
(low byte first, `encrypted` in bit 7 of byte 1), id, security byte and payload at their offsets; byte 5 is one
evaluation of the checksum function over the same bytes with `checksumByte` in that place; nothing else changes. -/
def Obligations.EncodeBuildsFrame : Prop :=
  ∀ (s : State) (id : W16) (encrypted : Bool) (payload : Bytes) (securityByte checksumByte : Byte),
    s.fault = 0 → payload.length ≤ (maskWord s.cfg.lenMask).toNat →
    ∃ frame : Bytes,
      exec (.encode id encrypted payload securityByte checksumByte) s =
        .next { s with response := some (.ok (.frame frame)) } ∧
      frame.length = 6 + payload.length ∧
      (frame.getD 0 0).toNat = payload.length % 256 ∧
      (frame.getD 1 0).toNat = payload.length / 256 + (if encrypted then 128 else 0) ∧
      (frame.getD 2 0).toNat = id.toNat % 256 ∧ (frame.getD 3 0).toNat = id.toNat / 256 ∧
      frame.getD 4 0 = securityByte ∧
      frame.getD 5 0 = s.cfg.calc (frame.set 5 checksumByte) ∧
      frame.drop 6 = payload

/-- R52: a reader of the byte stream tells from the first two bytes of the frame ENCODE answers where it ends. -/
def Obligations.FrameLengthFromFirstTwoBytes : Prop :=
  ∀ (s t : State) (id : W16) (encrypted : Bool) (payload : Bytes) (securityByte checksumByte : Byte) (frame : Bytes),
    exec (.encode id encrypted payload securityByte checksumByte) s = .next t →
    t.response = some (.ok (.frame frame)) →
    frame.length = wireFrameLength s.cfg.lenMask (frame.getD 0 0) (frame.getD 1 0)

/-- R122: a payload longer than the mask (0x7FFF or 0x07FF bytes) raises `FramingError` and delivers nothing. -/
def Obligations.EncodeRefusesLongPayload : Prop :=
  ∀ (s : State) (id : W16) (encrypted : Bool) (payload : Bytes) (securityByte checksumByte : Byte),
    s.fault = 0 →
    (s.cfg.lenMask = .low15 → 0x7FFF < payload.length → exec (.encode id encrypted payload securityByte checksumByte) s = .next { s with fault := 0x03, response := some (.fault 0x03) }) ∧
    (s.cfg.lenMask = .low11 → 0x07FF < payload.length → exec (.encode id encrypted payload securityByte checksumByte) s = .next { s with fault := 0x03, response := some (.fault 0x03) })

/-- R126: DECODE on a block with no fault latched answers the packet, the payload as given, exactly when the payload has
the length the length word says under the mask; otherwise it raises `FramingError`. Nothing else changes. -/
def Obligations.DecodeReturnsPacket : Prop :=
  ∀ (s : State) (lengthWord idWord : W16) (count checksum : Byte) (payload : Bytes), s.fault = 0 →
    (payload.length = lengthWord.toNat % (match s.cfg.lenMask with | .low15 => 2 ^ 15 | .low11 => 2 ^ 11) →
      exec (.decode lengthWord idWord count checksum payload) s =
        .next { s with response := some (.ok (.packet idWord (decide (2 ^ 15 ≤ lengthWord.toNat)) payload)) }) ∧
    (payload.length ≠ lengthWord.toNat % (match s.cfg.lenMask with | .low15 => 2 ^ 15 | .low11 => 2 ^ 11) →
      exec (.decode lengthWord idWord count checksum payload) s =
        .next { s with fault := 0x03, response := some (.fault 0x03) })

/-- R127: DECODE verifies neither `checksum` nor `count`; any value of either gives the same result. -/
def Obligations.DecodeIgnoresCountAndChecksum : Prop :=
  ∀ (s : State) (lengthWord idWord : W16) (count checksum count' checksum' : Byte) (payload : Bytes),
    exec (.decode lengthWord idWord count checksum payload) s =
      exec (.decode lengthWord idWord count' checksum' payload) s

/-- R128 (and R51): with the mask 0x07FF, two length words that agree outside bits 14:11 decode alike. -/
def Obligations.DecodeIgnoresBits14To11 : Prop :=
  ∀ (s : State) (lengthWord lengthWord' idWord : W16) (count checksum : Byte) (payload : Bytes),
    s.cfg.lenMask = .low11 → lengthWord &&& 0x87FF = lengthWord' &&& 0x87FF →
    exec (.decode lengthWord idWord count checksum payload) s =
      exec (.decode lengthWord' idWord count checksum payload) s

/-- R129, first law: for every packet whose payload fits the mask, FrameSplit and DECODE of what ENCODE answered give the
packet back, for every checksum function. -/
def Obligations.CodecRoundTrips : Prop :=
  ∀ (s : State) (id : W16) (encrypted : Bool) (payload : Bytes) (securityByte checksumByte : Byte),
    s.fault = 0 → payload.length ≤ (maskWord s.cfg.lenMask).toNat →
    ∃ t frame fields,
      exec (.encode id encrypted payload securityByte checksumByte) s = .next t ∧
      t.response = some (.ok (.frame frame)) ∧ frameSplit frame = some fields ∧
      exec (decodeOfFields fields) t = .next { s with response := some (.ok (.packet id encrypted payload)) }

/-- R129, the other direction: FrameSplit, DECODE and ENCODE with the same security byte give back the same frame except
possibly byte 5 and, under the mask 0x07FF, bits 14:11 of the length word (bits 6:3 of byte 1). -/
def Obligations.ReframingGivesFrameBack : Prop :=
  ∀ (s : State) (frame : Bytes) (fields : FrameFields) (checksumByte : Byte),
    s.fault = 0 → frameSplit frame = some fields →
    fields.payload.length = lengthField s.cfg.lenMask fields.lengthWord →
    ∃ t u frame' encrypted,
      exec (decodeOfFields fields) s = .next t ∧
      t.response = some (.ok (.packet fields.idWord encrypted fields.payload)) ∧
      exec (.encode fields.idWord encrypted fields.payload fields.count checksumByte) t = .next u ∧
      u.response = some (.ok (.frame frame')) ∧ frame'.length = frame.length ∧
      (∀ j, j ≠ 5 → (s.cfg.lenMask = .low15 ∨ j ≠ 1) → frame'.getD j 0 = frame.getD j 0) ∧
      (s.cfg.lenMask = .low11 → frame'.getD 1 0 = frame.getD 1 0 &&& 0x87)

/-- R16: ENCODE and DECODE neither read nor write `P`, `S` or `keyed`. -/
def Obligations.FramerIgnoresCipher : Prop :=
  ∀ (i : Instr) (s t : State),
    ((∃ id encrypted payload securityByte checksumByte, i = .encode id encrypted payload securityByte checksumByte) ∨
      (∃ lengthWord idWord count checksum payload, i = .decode lengthWord idWord count checksum payload)) →
    exec i s = .next t →
    ∀ (P : Vector W32 18) (S : Vector (Vector W32 256) 4) (keyed : Bool),
      exec i { s with P := P, S := S, keyed := keyed } = .next { t with P := P, S := S, keyed := keyed }

/-- R65, R130: on a keyed block with no fault latched, the frame that SEND_ENC answers for a payload of whole blocks that
fits the mask is one that RECV turns back into the payload; nothing but the response has changed. -/
def Obligations.SendEncThenRecvReturnsPayload : Prop :=
  ∀ (s : State) (id : W16) (payload : Bytes) (sec ck : Byte),
    s.fault = 0 → s.keyed = true → payload.length % 8 = 0 →
    payload.length ≤ (maskWord s.cfg.lenMask).toNat →
    ∃ t frame, runSendEnc id payload sec ck s = .next t ∧ t.response = some (.ok (.frame frame)) ∧
      frame.length = 6 + payload.length ∧
      runRecv frame t = .next { s with response := some (.ok (.out payload)) }

/-! ## The configuration -/

/-- R22 (its last column) and R86 (c): a command reads of `CFG` only the fields its row lists: INIT the two initial
tables, XFORM the block order, ENCODE the length mask and the checksum function, DECODE the length mask, and ENCIPHER,
DECIPHER and STATUS none. With another configuration that agrees there it does the same. -/
def Obligations.CommandsReadTheirConfiguration : Prop :=
  ∀ (i : Instr) (s t : State) (cfg : Cfg), exec i s = .next t →
    (∀ key, i = .init key → cfg.pInit = s.cfg.pInit ∧ cfg.sInit = s.cfg.sInit) →
    (∀ buf, i = .xformEnc buf ∨ i = .xformDec buf → cfg.blockOrder = s.cfg.blockOrder) →
    (∀ id encrypted payload securityByte checksumByte, i = .encode id encrypted payload securityByte checksumByte →
      cfg.lenMask = s.cfg.lenMask ∧ cfg.calc = s.cfg.calc) →
    (∀ lengthWord idWord count checksum payload, i = .decode lengthWord idWord count checksum payload →
      cfg.lenMask = s.cfg.lenMask) →
    exec i { s with cfg := cfg } = .next { t with cfg := cfg }

/-- R7, R90, R91: the block after reset has the given initial tables in its configuration; R92's check values (the XOR of
all words of `p_init` and of each table) and the first and last word of each tell a wrong transcription. -/
def Obligations.ResetHasGivenTables : Prop :=
  State.reset.cfg.pInit.toList.foldl (· ^^^ ·) 0 = 0xB73AD7EA ∧
  State.reset.cfg.pInit.toList.head? = some 0x243F6A88 ∧ State.reset.cfg.pInit.toList.getLast? = some 0x8979FB1B ∧
  State.reset.cfg.sInit.toList.map (fun table => table.toList.foldl (· ^^^ ·) 0) =
    [0x4EB4DB7F, 0xC727E122, 0x462A5D01, 0x1779E2BC] ∧
  State.reset.cfg.sInit.toList.map (fun table => (table.toList.head?, table.toList.getLast?)) =
    [(some 0xD1310BA6, some 0x6E85076A), (some 0x4B7A70E9, some 0xDB83ADF7),
      (some 0xE93D5A68, some 0x406000E0), (some 0x3A39CE37, some 0x3AC372E6)]
end

