-- ==== Sys2Proof/Laws/Cipher.lean ====
section
/-! SUPPORT. The small lemmas of the cipher's definitions: words and bytes as numbers, bytes and halves inverse to
each other, the round of `Dec` that undoes a round of `Enc`, and what the transform does to one slice. -/

namespace Sys2Proof.Machine

/-! Words and bytes as numbers. -/

/-- Putting a byte below a word multiplies the word by 256. -/
theorem toNat_append_byte {n : Nat} (x : BitVec n) (b : Byte) : (x ++ b).toNat = x.toNat * 256 + b.toNat := by
  rw [BitVec.toNat_append, ← Nat.shiftLeft_add_eq_or_of_lt b.isLt, Nat.shiftLeft_eq]

theorem be32_toNat (b0 b1 b2 b3 : Byte) :
    (be32 b0 b1 b2 b3).toNat = ((b0.toNat * 256 + b1.toNat) * 256 + b2.toNat) * 256 + b3.toNat := by
  simp only [be32, toNat_append_byte]

theorem le32_eq_be32 (b0 b1 b2 b3 : Byte) : le32 b0 b1 b2 b3 = be32 b3 b2 b1 b0 := rfl

theorem le16_toNat (b0 b1 : Byte) : (le16 b0 b1).toNat = b1.toNat * 256 + b0.toNat := by
  simp only [le16, toNat_append_byte]

theorem byteOfHalf_toNat (x : W32) (j : Fin 4) :
    (byteOfHalf x j).toNat = x.toNat / 2 ^ (24 - 8 * j.val) % 256 := by
  simp [byteOfHalf, BitVec.extractLsb'_toNat, Nat.shiftRight_eq_div_pow]

/-! Bytes and halves are inverse to each other. -/

/-- The four bytes of a half, most significant first, make the half again. -/
@[simp] theorem be32_byteOfHalf (w : W32) :
    be32 (byteOfHalf w 0) (byteOfHalf w 1) (byteOfHalf w 2) (byteOfHalf w 3) = w := by
  apply BitVec.eq_of_toNat_eq
  have := w.isLt
  simp only [be32_toNat, byteOfHalf_toNat]
  norm_num
  omega

/-- The bytes of a half made from four bytes are those bytes. -/
theorem byteOfHalf_be32 (b0 b1 b2 b3 : Byte) (j : Fin 4) :
    byteOfHalf (be32 b0 b1 b2 b3) j = [b0, b1, b2, b3].get j := by
  apply BitVec.eq_of_toNat_eq
  have := b0.isLt; have := b1.isLt; have := b2.isLt; have := b3.isLt
  rw [byteOfHalf_toNat, be32_toNat]
  fin_cases j <;> norm_num <;> omega

@[simp] theorem bytesOfHalf_length (order : BlockOrder) (w : W32) : (bytesOfHalf order w).length = 4 := by
  cases order <;> rfl

@[simp] theorem unhalves_length (order : BlockOrder) (lr : W32 × W32) : (unhalves order lr).length = 8 := by
  simp [unhalves]

/-- Writing a half and reading it back gives the half. -/
theorem halfOfBytes_bytesOfHalf (order : BlockOrder) (w : W32) {b0 b1 b2 b3 : Byte}
    (h : bytesOfHalf order w = [b0, b1, b2, b3]) : halfOfBytes order b0 b1 b2 b3 = w := by
  cases order <;> simp only [bytesOfHalf, bytesBe32, bytesLe32, List.cons.injEq] at h <;>
    obtain ⟨rfl, rfl, rfl, rfl, -⟩ := h <;> simp [halfOfBytes, le32_eq_be32]

/-- Reading a half and writing it back gives the bytes. -/
@[simp] theorem bytesOfHalf_halfOfBytes (order : BlockOrder) (b0 b1 b2 b3 : Byte) :
    bytesOfHalf order (halfOfBytes order b0 b1 b2 b3) = [b0, b1, b2, b3] := by
  cases order <;>
    simp [bytesOfHalf, halfOfBytes, bytesBe32, bytesLe32, le32_eq_be32, byteOfHalf_be32]

/-! Rounds. -/

/-- A round of `Dec` on the exchanged pair undoes the round of `Enc` with the same subkey (R101). -/
theorem decRound_encRound (k : Schedule) (lr : W32 × W32) (n : Fin 18) :
    decRound k (encRound k lr n).swap n = lr.swap := by
  by_cases h : n.val % 2 = 1 <;> simp [encRound, decRound, h, Prod.swap]

/-- And the other way about. -/
theorem encRound_decRound (k : Schedule) (lr : W32 × W32) (n : Fin 18) :
    encRound k (decRound k lr n).swap n = lr.swap := by
  by_cases h : n.val % 2 = 1 <;> simp [encRound, decRound, h, Prod.swap]

/-! The buffer transform. -/

@[simp] theorem xform_nil (order : BlockOrder) (f : W32 × W32 → W32 × W32) : xform order f [] = [] := by
  simp [xform]

/-- One slice at the head of a buffer: it is transformed on its own (R103). -/
theorem xform_slice (order : BlockOrder) (f : W32 × W32 → W32 × W32) (b0 b1 b2 b3 b4 b5 b6 b7 : Byte)
    (rest : Bytes) :
    xform order f (b0 :: b1 :: b2 :: b3 :: b4 :: b5 :: b6 :: b7 :: rest) =
      unhalves order (f (halfOfBytes order b0 b1 b2 b3, halfOfBytes order b4 b5 b6 b7)) ++ xform order f rest := by
  rw [xform]

/-- A nonempty buffer of whole blocks has a first slice. -/
theorem exists_slice {buf : Bytes} (h : buf.length % 8 = 0) (hne : buf ≠ []) :
    ∃ b0 b1 b2 b3 b4 b5 b6 b7 rest,
      buf = b0 :: b1 :: b2 :: b3 :: b4 :: b5 :: b6 :: b7 :: rest ∧ rest.length % 8 = 0 := by
  match buf, hne with
  | b0 :: b1 :: b2 :: b3 :: b4 :: b5 :: b6 :: b7 :: rest, _ =>
    exact ⟨b0, b1, b2, b3, b4, b5, b6, b7, rest, rfl, by simp at h; omega⟩
  | [_], _ | [_, _], _ | [_, _, _], _ | [_, _, _, _], _ | [_, _, _, _, _], _ | [_, _, _, _, _, _], _
  | [_, _, _, _, _, _, _], _ => simp at h

/-- Induction over a buffer of whole blocks, slice by slice (`induction buf, h using slices_induction`). -/
theorem slices_induction {motive : (buf : Bytes) → buf.length % 8 = 0 → Prop} (nil : motive [] rfl)
    (slice : ∀ b0 b1 b2 b3 b4 b5 b6 b7 rest (hr : rest.length % 8 = 0), motive rest hr →
      motive (b0 :: b1 :: b2 :: b3 :: b4 :: b5 :: b6 :: b7 :: rest) (by simp; omega))
    (buf : Bytes) (h : buf.length % 8 = 0) : motive buf h := by
  induction hn : buf.length using Nat.strongRecOn generalizing buf with
  | ind n ih =>
    by_cases hne : buf = []
    · subst hne
      exact nil
    · obtain ⟨b0, b1, b2, b3, b4, b5, b6, b7, rest, rfl, hr⟩ := exists_slice h hne
      exact slice _ _ _ _ _ _ _ _ _ hr (ih rest.length (by simp at hn; omega) rest hr rfl)

/-! The key schedule. -/

/-- The schedule as its definition has it. -/
theorem keySchedule_eq (cfg : Cfg) (key : Bytes) :
    keySchedule cfg key = (entryPairs.foldl replacePair (keyedConstants cfg key, (0, 0))).1 := by
  unfold keySchedule
  rfl

/-- Of the configuration the schedule reads the two initial tables alone (R86 (c)). -/
theorem keySchedule_cfg {cfg cfg' : Cfg} (hp : cfg.pInit = cfg'.pInit) (hs : cfg.sInit = cfg'.sInit) (key : Bytes) :
    keySchedule cfg key = keySchedule cfg' key := by
  simp only [keySchedule_eq, keyedConstants, hp, hs]

/-- The pairs that INIT replaces are 9 + 4 * 128 = 521 (R84). -/
theorem entryPairs_length : entryPairs.length = 521 := by
  simp [entryPairs]

end Sys2Proof.Machine
end

