-- ==== Sys2Proof/Laws/State.lean ====
section
/-! SUPPORT. What each named update of the state leaves in each field: one lemma for each field and update, true by
definition, so that no later proof unfolds a record update. The lemmas about `schedule`, and about `P` and `S` after an
installation, are proved by cases, so that `simp` rewrites with them and the kernel never runs a concrete
`keySchedule`. -/

namespace Sys2Proof.Machine

/-! The fields after giving a response. -/

@[simp] theorem State.respond_P (s : State) (r : Response) : (s.respond r).P = s.P := rfl
@[simp] theorem State.respond_S (s : State) (r : Response) : (s.respond r).S = s.S := rfl
@[simp] theorem State.respond_keyed (s : State) (r : Response) : (s.respond r).keyed = s.keyed := rfl
@[simp] theorem State.respond_fault (s : State) (r : Response) : (s.respond r).fault = s.fault := rfl
@[simp] theorem State.respond_cfg (s : State) (r : Response) : (s.respond r).cfg = s.cfg := rfl
@[simp] theorem State.respond_port (s : State) (r : Response) : (s.respond r).port = s.port := rfl
@[simp] theorem State.respond_response (s : State) (r : Response) : (s.respond r).response = some r := rfl
@[simp] theorem State.respond_resets (s : State) (r : Response) : (s.respond r).resets = s.resets := rfl
@[simp] theorem State.respond_schedule (s : State) (r : Response) : (s.respond r).schedule = s.schedule := by
  cases s; rfl

/-! The fields after delivering results. -/

@[simp] theorem State.deliver_P (s : State) (r : Results) : (s.deliver r).P = s.P := rfl
@[simp] theorem State.deliver_S (s : State) (r : Results) : (s.deliver r).S = s.S := rfl
@[simp] theorem State.deliver_keyed (s : State) (r : Results) : (s.deliver r).keyed = s.keyed := rfl
@[simp] theorem State.deliver_fault (s : State) (r : Results) : (s.deliver r).fault = s.fault := rfl
@[simp] theorem State.deliver_cfg (s : State) (r : Results) : (s.deliver r).cfg = s.cfg := rfl
@[simp] theorem State.deliver_port (s : State) (r : Results) : (s.deliver r).port = s.port := rfl
@[simp] theorem State.deliver_response (s : State) (r : Results) : (s.deliver r).response = some (.ok r) := rfl
@[simp] theorem State.deliver_resets (s : State) (r : Results) : (s.deliver r).resets = s.resets := rfl
@[simp] theorem State.deliver_schedule (s : State) (r : Results) : (s.deliver r).schedule = s.schedule := by
  cases s; rfl

/-! The fields after raising a fault (R191). -/

@[simp] theorem State.raise_P (s : State) (f : FaultName) : (s.raise f).P = s.P := rfl
@[simp] theorem State.raise_S (s : State) (f : FaultName) : (s.raise f).S = s.S := rfl
@[simp] theorem State.raise_keyed (s : State) (f : FaultName) : (s.raise f).keyed = s.keyed := rfl
@[simp] theorem State.raise_fault (s : State) (f : FaultName) : (s.raise f).fault = f.code := rfl
@[simp] theorem State.raise_cfg (s : State) (f : FaultName) : (s.raise f).cfg = s.cfg := rfl
@[simp] theorem State.raise_port (s : State) (f : FaultName) : (s.raise f).port = s.port := rfl
@[simp] theorem State.raise_response (s : State) (f : FaultName) : (s.raise f).response = some (.fault f.code) := rfl
@[simp] theorem State.raise_resets (s : State) (f : FaultName) : (s.raise f).resets = s.resets := rfl
@[simp] theorem State.raise_schedule (s : State) (f : FaultName) : (s.raise f).schedule = s.schedule := by
  cases s; rfl

/-! The fields after the refusal while faulted (R196). -/

@[simp] theorem State.refuseLatched_P (s : State) : s.refuseLatched.P = s.P := rfl
@[simp] theorem State.refuseLatched_S (s : State) : s.refuseLatched.S = s.S := rfl
@[simp] theorem State.refuseLatched_keyed (s : State) : s.refuseLatched.keyed = s.keyed := rfl
@[simp] theorem State.refuseLatched_fault (s : State) : s.refuseLatched.fault = s.fault := rfl
@[simp] theorem State.refuseLatched_cfg (s : State) : s.refuseLatched.cfg = s.cfg := rfl
@[simp] theorem State.refuseLatched_port (s : State) : s.refuseLatched.port = s.port := rfl
@[simp] theorem State.refuseLatched_response (s : State) : s.refuseLatched.response = some (.fault s.fault) := rfl
@[simp] theorem State.refuseLatched_resets (s : State) : s.refuseLatched.resets = s.resets := rfl
@[simp] theorem State.refuseLatched_schedule (s : State) : s.refuseLatched.schedule = s.schedule := by
  cases s; rfl

/-! The fields after installing a key schedule (R85). -/

@[simp] theorem State.install_P (s : State) (k : Schedule) : (s.install k).P = k.P := by
  cases k; rfl
@[simp] theorem State.install_S (s : State) (k : Schedule) : (s.install k).S = k.S := by
  cases k; rfl
@[simp] theorem State.install_keyed (s : State) (k : Schedule) : (s.install k).keyed = true := rfl
@[simp] theorem State.install_fault (s : State) (k : Schedule) : (s.install k).fault = s.fault := rfl
@[simp] theorem State.install_cfg (s : State) (k : Schedule) : (s.install k).cfg = s.cfg := rfl
@[simp] theorem State.install_port (s : State) (k : Schedule) : (s.install k).port = s.port := rfl
@[simp] theorem State.install_response (s : State) (k : Schedule) : (s.install k).response = s.response := rfl
@[simp] theorem State.install_resets (s : State) (k : Schedule) : (s.install k).resets = s.resets := rfl
@[simp] theorem State.install_schedule (s : State) (k : Schedule) : (s.install k).schedule = k := by
  cases k; rfl

/-! The fields after the reset event (R220). -/

@[simp] theorem State.applyReset_P (s : State) : s.applyReset.P = Config.noValueP (s.resets + 1) := rfl
@[simp] theorem State.applyReset_S (s : State) : s.applyReset.S = Config.noValueS (s.resets + 1) := rfl
@[simp] theorem State.applyReset_keyed (s : State) : s.applyReset.keyed = false := rfl
@[simp] theorem State.applyReset_fault (s : State) : s.applyReset.fault = 0 := rfl
@[simp] theorem State.applyReset_cfg (s : State) : s.applyReset.cfg = s.cfg := rfl
@[simp] theorem State.applyReset_port (s : State) : s.applyReset.port = s.port := rfl
@[simp] theorem State.applyReset_response (s : State) : s.applyReset.response = none := rfl
@[simp] theorem State.applyReset_resets (s : State) : s.applyReset.resets = s.resets + 1 := rfl

/-! Two refusals, or an answer after an answer: only the last response stands. -/

@[simp] theorem State.respond_respond (s : State) (a b : Response) :
    (s.respond a).respond b = s.respond b := rfl

/-- A second schedule installed and answered leaves nothing of the first. -/
theorem State.install_twice (s : State) (k k' : Schedule) (r r' : Results) :
    (((s.install k).deliver r).install k').deliver r' = (s.install k').deliver r' := rfl

@[simp] theorem State.schedule_P (s : State) : s.schedule.P = s.P := rfl

@[simp] theorem State.schedule_S (s : State) : s.schedule.S = s.S := rfl

end Sys2Proof.Machine
end

