-- ==== Sys2Proof/Laws/Ops.lean ====
section
/-! SUPPORT. What the shared operations can do, said once each: the latched-fault check, the `keyed` check, the two
common forms of the cipher data commands, and taking an event from the port. The proofs cite these instead of
unfolding the operations. -/

namespace Sys2Proof.Machine

/-- With no fault latched the command runs. -/
theorem unlessFaulted_clear {s : State} (h : s.fault = 0) (run : State → State) :
    unlessFaulted s run = .next (run s) :=
  if_pos h

/-- With a fault latched the command is refused (R196). -/
theorem unlessFaulted_latched {s : State} (h : s.fault ≠ 0) (run : State → State) :
    unlessFaulted s run = .next s.refuseLatched :=
  if_neg h

/-- All that the latched-fault check can do. -/
theorem unlessFaulted_cases {s t : State} {run : State → State} (h : unlessFaulted s run = .next t) :
    (s.fault = 0 ∧ t = run s) ∨ (s.fault ≠ 0 ∧ t = s.refuseLatched) := by
  by_cases hf : s.fault = 0
  · rw [unlessFaulted_clear hf] at h
    exact .inl ⟨hf, (Host.Outcome.next.inj h).symm⟩
  · rw [unlessFaulted_latched hf] at h
    exact .inr ⟨hf, (Host.Outcome.next.inj h).symm⟩

/-- On a keyed block the command runs. -/
theorem whenKeyed_keyed {s : State} (h : s.keyed = true) (run : State → State) :
    whenKeyed s run = run s := by
  simp [whenKeyed, h]

/-- On an unkeyed block it raises `NotKeyed` (R96). -/
theorem whenKeyed_unkeyed {s : State} (h : s.keyed = false) (run : State → State) :
    whenKeyed s run = s.raise .notKeyed := by
  simp [whenKeyed, h]

/-- ENCIPHER and DECIPHER on a keyed block without a fault. -/
theorem runBlock_keyed {s : State} (hf : s.fault = 0) (hk : s.keyed = true)
    (f : Schedule → W32 × W32 → W32 × W32) (left right : W32) :
    runBlock f left right s =
      .next (s.deliver (.block (f s.schedule (left, right)).1 (f s.schedule (left, right)).2)) := by
  simp [runBlock, unlessFaulted_clear hf, whenKeyed_keyed hk]

/-- XFORM on a keyed block without a fault, for whole blocks. -/
theorem runXform_keyed {s : State} (hf : s.fault = 0) (hk : s.keyed = true)
    (f : Schedule → W32 × W32 → W32 × W32) {buf : Bytes} (hb : buf.length % 8 = 0) :
    runXform f buf s = .next (s.deliver (.out (xform s.cfg.blockOrder (f s.schedule) buf))) := by
  simp [runXform, unlessFaulted_clear hf, whenKeyed_keyed hk, wholeBlocks, hb]

/-- XFORM on a keyed block without a fault, for any other length (R193). -/
theorem runXform_badLength {s : State} (hf : s.fault = 0) (hk : s.keyed = true)
    (f : Schedule → W32 × W32 → W32 × W32) {buf : Bytes} (hb : buf.length % 8 ≠ 0) :
    runXform f buf s = .next (s.raise .invalidBlockLength) := by
  simp [runXform, unlessFaulted_clear hf, whenKeyed_keyed hk, wholeBlocks, hb]

/-- INIT without a fault and with a legal key. -/
theorem execInit_legal {s : State} (hf : s.fault = 0) {key : Bytes} (hk : keyLegal key = true) :
    execInit key s = .next ((s.install (keySchedule s.cfg key)).deliver .none) := by
  simp [execInit, unlessFaulted_clear hf, hk]

/-- INIT without a fault and with a key of the wrong length (R192). -/
theorem execInit_badKey {s : State} (hf : s.fault = 0) {key : Bytes} (hk : keyLegal key = false) :
    execInit key s = .next (s.raise .invalidKey) := by
  simp [execInit, unlessFaulted_clear hf, hk]

/-- How a command can raise a fault on a block with none latched (R201): the cause of each. -/
def RaisesFor (i : Instr) (s : State) (f : FaultName) : Prop :=
  (f = .invalidKey ∧ ∃ key, i = .init key ∧ keyLegal key = false) ∨
  (f = .notKeyed ∧ s.keyed = false) ∨
  (f = .invalidBlockLength ∧ s.keyed = true) ∨
  f = .framingError

/-- All that a command can do to the state: it answers and leaves the rest as it was; or it is an INIT that installs
the schedule of a legal key; or it raises a fault on a block with none latched; or it is refused with the latched
code. -/
theorem exec_cases {i : Instr} {s t : State} (h : exec i s = .next t) :
    (∃ r, t = s.deliver r ∧ (s.fault = 0 ∨ i = .status)) ∨
    (∃ key, i = .init key ∧ s.fault = 0 ∧ keyLegal key = true ∧
      t = (s.install (keySchedule s.cfg key)).deliver .none) ∨
    (∃ f, s.fault = 0 ∧ t = s.raise f ∧ RaisesFor i s f) ∨
    (s.fault ≠ 0 ∧ i ≠ .status ∧ t = s.refuseLatched) := by
  have latched : ∀ {run : State → State}, unlessFaulted s run = .next t → i ≠ .status →
      (s.fault = 0 → t = run s → (∃ r, t = s.deliver r ∧ (s.fault = 0 ∨ i = .status)) ∨
        (∃ key, i = .init key ∧ s.fault = 0 ∧ keyLegal key = true ∧
          t = (s.install (keySchedule s.cfg key)).deliver .none) ∨
        (∃ f, s.fault = 0 ∧ t = s.raise f ∧ RaisesFor i s f)) →
      (∃ r, t = s.deliver r ∧ (s.fault = 0 ∨ i = .status)) ∨
      (∃ key, i = .init key ∧ s.fault = 0 ∧ keyLegal key = true ∧
        t = (s.install (keySchedule s.cfg key)).deliver .none) ∨
      (∃ f, s.fault = 0 ∧ t = s.raise f ∧ RaisesFor i s f) ∨
      (s.fault ≠ 0 ∧ i ≠ .status ∧ t = s.refuseLatched) := by
    intro run hr hi hc
    obtain ⟨hf, rfl⟩ | ⟨hf, rfl⟩ := unlessFaulted_cases hr
    · obtain h | h | h := hc hf rfl
      · exact .inl h
      · exact .inr (.inl h)
      · exact .inr (.inr (.inl h))
    · exact .inr (.inr (.inr ⟨hf, hi, rfl⟩))
  have block : ∀ {f : Schedule → W32 × W32 → W32 × W32} {left right : W32},
      runBlock f left right s = .next t → i ≠ .status → _ := fun {f left right} hr hi =>
    latched hr hi fun hf ht => by
      by_cases hk : s.keyed = true
      · rw [whenKeyed_keyed hk] at ht
        exact .inl ⟨_, ht, .inl hf⟩
      · rw [whenKeyed_unkeyed (by simpa using hk)] at ht
        exact .inr (.inr ⟨_, hf, ht, .inr (.inl ⟨rfl, by simpa using hk⟩)⟩)
  have buffer : ∀ {f : Schedule → W32 × W32 → W32 × W32} {buf : Bytes},
      runXform f buf s = .next t → i ≠ .status → _ := fun {f buf} hr hi =>
    latched hr hi fun hf ht => by
      by_cases hk : s.keyed = true
      · rw [whenKeyed_keyed hk] at ht
        split at ht
        · exact .inl ⟨_, ht, .inl hf⟩
        · exact .inr (.inr ⟨_, hf, ht, .inr (.inr (.inl ⟨rfl, hk⟩))⟩)
      · rw [whenKeyed_unkeyed (by simpa using hk)] at ht
        exact .inr (.inr ⟨_, hf, ht, .inr (.inl ⟨rfl, by simpa using hk⟩)⟩)
  cases i with
  | init key =>
    simp only [exec, execInit] at h
    refine latched h (by simp) fun hf ht => ?_
    split at ht
    · next hk => exact .inr (.inl ⟨key, rfl, hf, hk, ht⟩)
    · next hk => exact .inr (.inr ⟨_, hf, ht, .inl ⟨rfl, key, rfl, by simpa using hk⟩⟩)
  | encipher left right => exact block h (by simp)
  | decipher left right => exact block h (by simp)
  | xformEnc buf => exact buffer h (by simp)
  | xformDec buf => exact buffer h (by simp)
  | encode id encrypted payload securityByte checksumByte =>
    simp only [exec, execEncode] at h
    refine latched h (by simp) fun hf ht => ?_
    split at ht
    · exact .inl ⟨_, ht, .inl hf⟩
    · exact .inr (.inr ⟨_, hf, ht, .inr (.inr (.inr rfl))⟩)
  | decode lengthWord idWord count checksum payload =>
    simp only [exec, execDecode] at h
    refine latched h (by simp) fun hf ht => ?_
    split at ht
    · exact .inl ⟨_, ht, .inl hf⟩
    · exact .inr (.inr ⟨_, hf, ht, .inr (.inr (.inr rfl))⟩)
  | status => exact .inl ⟨_, (Host.Outcome.next.inj h).symm, .inr rfl⟩

/-- All that an illegal opcode can do (R196, R197). -/
theorem illegalCommand_cases {s t : State} (h : illegalCommand s = .next t) :
    (s.fault = 0 ∧ t = s.raise .illegalCommand) ∨ (s.fault ≠ 0 ∧ t = s.refuseLatched) :=
  unlessFaulted_cases h

/-- A step with nothing at the port (R23, log 10). -/
theorem step_idle {s : State} (h : s.port = []) : step s = .next s := by
  simp [step, takeEvent, h]

/-- A step that takes the reset event (R220). -/
theorem step_reset {s : State} {rest : List PortEvent} (h : s.port = .reset :: rest) :
    step s = .next ({ s with port := rest } : State).applyReset := by
  simp [step, takeEvent, h]

/-- A step that takes a command of the map. -/
theorem step_instr {s : State} {c : Command} {rest : List PortEvent} {i : Instr}
    (h : s.port = .command c :: rest) (hd : decode c = .instr i) :
    step s = exec i { s with port := rest } := by
  simp [step, takeEvent, h, hd]

/-- A step that takes an opcode outside the map (R197). -/
theorem step_illegal {s : State} {c : Command} {rest : List PortEvent} {op : Byte}
    (h : s.port = .command c :: rest) (hd : decode c = .illegal op) :
    step s = illegalCommand { s with port := rest } := by
  simp [step, takeEvent, h, hd]

/-- All that a step can do: nothing is presented and the state stays; or the reset event is taken; or a command of
the map runs; or an illegal opcode is answered. -/
theorem step_cases {s t : State} (h : step s = .next t) :
    (s.port = [] ∧ t = s) ∨
    (∃ rest, s.port = .reset :: rest ∧ t = ({ s with port := rest } : State).applyReset) ∨
    (∃ c rest i, s.port = .command c :: rest ∧ decode c = .instr i ∧
      exec i { s with port := rest } = .next t) ∨
    (∃ c rest op, s.port = .command c :: rest ∧ decode c = .illegal op ∧
      illegalCommand { s with port := rest } = .next t) := by
  match hp : s.port with
  | [] => exact .inl ⟨rfl, (Host.Outcome.next.inj (step_idle hp ▸ h)).symm⟩
  | .reset :: rest => exact .inr (.inl ⟨rest, rfl, (Host.Outcome.next.inj (step_reset hp ▸ h)).symm⟩)
  | .command c :: rest =>
    match hd : decode c with
    | .instr i => exact .inr (.inr (.inl ⟨c, rest, i, rfl, hd, step_instr hp hd ▸ h⟩))
    | .illegal op => exact .inr (.inr (.inr ⟨c, rest, op, rfl, hd, step_illegal hp hd ▸ h⟩))

end Sys2Proof.Machine
end

