-- ==== Sys2Proof/Laws/PerInstr.lean ====
section
/-! SUPPORT. A statement about the instruction as syntax, with one lemma for each constructor: its encoding is a
well-formed raw command (listed opcode, unused lanes idle). -/

namespace Sys2Proof.Laws.EncodingWellFormed

/-- The encoding of an instruction is a well-formed raw command (R56, R57). -/
def Statement (i : Instr) : Prop := (Sys2Proof.encode i).wellFormed = true

theorem init (key : Bytes) : Statement (.init key) := by
  simp [Statement, Sys2Proof.encode, Command.wellFormed, Command.opcodeListed, Command.otherLanesIdle,
    Command.namedLanes]

theorem encipher (left right : W32) : Statement (.encipher left right) := by
  simp [Statement, Sys2Proof.encode, Command.wellFormed, Command.opcodeListed, Command.otherLanesIdle,
    Command.namedLanes]

theorem decipher (left right : W32) : Statement (.decipher left right) := by
  simp [Statement, Sys2Proof.encode, Command.wellFormed, Command.opcodeListed, Command.otherLanesIdle,
    Command.namedLanes]

theorem xformEnc (buf : Bytes) : Statement (.xformEnc buf) := by
  simp [Statement, Sys2Proof.encode, Command.wellFormed, Command.opcodeListed, Command.otherLanesIdle,
    Command.namedLanes]

theorem xformDec (buf : Bytes) : Statement (.xformDec buf) := by
  simp [Statement, Sys2Proof.encode, Command.wellFormed, Command.opcodeListed, Command.otherLanesIdle,
    Command.namedLanes]

theorem encode (id : W16) (encrypted : Bool) (payload : Bytes) (securityByte checksumByte : Byte) :
    Statement (.encode id encrypted payload securityByte checksumByte) := by
  simp [Statement, Sys2Proof.encode, Command.wellFormed, Command.opcodeListed, Command.otherLanesIdle,
    Command.namedLanes]

theorem decode (lengthWord idWord : W16) (count checksum : Byte) (payload : Bytes) :
    Statement (.decode lengthWord idWord count checksum payload) := by
  simp [Statement, Sys2Proof.encode, Command.wellFormed, Command.opcodeListed, Command.otherLanesIdle,
    Command.namedLanes]

theorem status : Statement .status := by
  simp [Statement, Sys2Proof.encode, Command.wellFormed, Command.opcodeListed, Command.otherLanesIdle,
    Command.namedLanes]

end Sys2Proof.Laws.EncodingWellFormed
end

