-- ==== Sys2Proof/Machine/Environment.lean ====
section
/-! DEFINITION. The host around the block, where 44_host_context.md gives it exactly: pure functions that no step
of the block calls (00_scope.md R4: host context, outside the block; log 18). They say where the block's operands
come from. Where the source is not exact, a free value stands (the mixing inside SecurityCounter's Initialize, N22)
or the point is left to the caller (at which payload offset the setup fields begin, 90_conflicts.md C6). -/

namespace Sys2Proof.Machine

/-- SecurityCounter's three byte registers (R144). -/
structure SecurityCounter where
  seed0 : Byte
  seed1 : Byte
  seed2 : Byte
deriving DecidableEq, Repr

/-- `Next()` (R146): the security byte of one outgoing frame, and the registers after it. -/
def securityNext (c : SecurityCounter) : Byte × SecurityCounter :=
  let product := c.seed2 * (~~~c.seed0 + c.seed1)
  let result := product ^^^ (product >>> 4)
  (result, { c with seed0 := result })

/-- `Initialize(seed)` (R145): a zero seed is replaced by `0x9ABFB3B6`; of the four outputs of the mixing (a free
value, N22) the low bytes are combined as 90_conflicts.md C7 settles, and a zero byte is forced to 1. -/
def securityInitialize (seed : W32) : SecurityCounter :=
  let out := Config.securityMix (if seed = 0 then 0x9ABFB3B6 else seed)
  let atLeastOne := fun b : Byte => if b = 0 then 1 else b
  let byte1 := atLeastOne ((out.get 0 ^^^ out.get 2).setWidth 8)
  let byte2 := atLeastOne ((out.get 1 ^^^ out.get 3).setWidth 8)
  { seed0 := byte1 ^^^ byte2, seed1 := byte2, seed2 := byte1 }

/-- The fields of the handshake setup payload (R151, R152). -/
structure SetupFields where
  crcSeed      : W32
  counterSeed  : W32
  blowfishSeed : Bytes
  generator    : W32
  modulus      : W32
  serverPublic : W32
deriving DecidableEq, Repr

/-- The little-endian word at an offset of the fields; a byte past their end reads 0 (log 17). -/
def wordAt (fields : Bytes) (offset : Nat) : W32 :=
  le32 (fields.getD offset 0) (fields.getD (offset + 1) 0) (fields.getD (offset + 2) 0) (fields.getD (offset + 3) 0)

/-- Parse the 36 bytes of the bracketed fields of the setup payload (R151, R152), the first 8 of them ignored. What
the host does with any other length the spec does not say: none here (DESIGN CHOICE, log 22; unsafe). Whether the flag byte stands before them or is the first of them is open (90_conflicts.md C6), so the caller cuts
the 36 bytes out. -/
def parseSetup (fields : Bytes) : Option SetupFields :=
  if fields.length = 36 then
    some { crcSeed := wordAt fields 8, counterSeed := wordAt fields 12, blowfishSeed := (fields.drop 16).take 8,
           generator := wordAt fields 24, modulus := wordAt fields 28, serverPublic := wordAt fields 32 }
  else none

/-- KeyMix of an 8-byte buffer (R155): the four little-endian key bytes and `keyByte` applied to both halves.
The buffer has eight bytes; of any other the result is as long as the shorter of the two (log 17). -/
def keyMix (buffer : Bytes) (key : W32) (keyByte : Byte) : Bytes :=
  List.zipWith (fun b k => b ^^^ (b + k + keyByte)) buffer (bytesLe32 key ++ bytesLe32 key)

/-- `base^0x33 mod modulus` (R154). The source does not say what happens for a modulus of 0 or 1: a free value
(N25, log 18). Nor does it discuss generator 0 and a server public value not below the modulus (N25): there the model
takes R154's formula as it stands, the exact power reduced modulo the modulus (DESIGN CHOICE, log 20; unsafe). -/
def modExpSecret (base modulus : W32) : W32 :=
  if 1 < modulus.toNat then BitVec.ofNat 32 (base.toNat ^ 0x33 % modulus.toNat)
  else Config.modExpEdge base modulus

/-- The interim key (R156): server then client public value, keyByte the low 2 bits of the shared secret. -/
def interimKey (serverPublic clientPublic sharedSecret : W32) : Bytes :=
  keyMix (bytesLe32 serverPublic ++ bytesLe32 clientPublic) sharedSecret ((sharedSecret &&& 3).setWidth 8)

/-- The client challenge before it is enciphered (R157). -/
def clientChallengePlain (serverPublic clientPublic sharedSecret : W32) : Bytes :=
  keyMix (bytesLe32 clientPublic ++ bytesLe32 serverPublic) sharedSecret ((clientPublic &&& 7).setWidth 8)

/-- The expected server challenge before it is enciphered (R159). -/
def serverChallengePlain (serverPublic clientPublic sharedSecret : W32) : Bytes :=
  keyMix (bytesLe32 serverPublic ++ bytesLe32 clientPublic) sharedSecret ((serverPublic &&& 7).setWidth 8)

/-- The payload of the handshake response (R158): the client public value and the enciphered challenge. -/
def responsePayload (clientPublic : W32) (challenge : Bytes) : Bytes := bytesLe32 clientPublic ++ challenge

/-- The final key (R160): the cipher seed mixed with the shared secret and keyByte 3. -/
def finalKey (blowfishSeed : Bytes) (sharedSecret : W32) : Bytes := keyMix blowfishSeed sharedSecret 3

/-- The handshake states of the host (R150). -/
inductive ConnectionState where
  | none
  | clientWaitSetup
  | clientWaitChallenge
  | done
deriving DecidableEq, Repr

/-- What the host's read loop does with a decoded packet (R150, R167). -/
inductive Route where
  /-- Appended to the receive queue. -/
  | queue
  /-- Given to the handshake. -/
  | handshake
  /-- `ProtocolViolation`: the host aborts the connection. -/
  | violation
deriving DecidableEq, Repr

/-- The discriminant byte the handshake expects in a state (R150): `0x0E` for setup, `0x10` for challenge, no
handshake frame at all in the others. -/
def expectedFlag (c : ConnectionState) : Option Byte :=
  match c with
  | .clientWaitSetup => some 0x0E
  | .clientWaitChallenge => some 0x10
  | _ => Option.none

/-- Routing of a decoded packet (R150, R167): encrypted before `DONE` is a violation; a frame with the handshake
id `0x5000` goes to the handshake when its first payload byte is the expected flag and is a violation otherwise;
anything else is queued. R150 does not speak of a handshake frame with an empty payload, which has no discriminant
byte, nor of one in state `NONE`, which has no expected flag: both are a violation here (DESIGN CHOICE, log 21;
unsafe). R168 also names an unexpected message id a violation, with no list of the expected ids (N26): here no id but
`0x5000` is ever unexpected, in any state, and every other id is queued as R167 says (DESIGN CHOICE, log 23;
unsafe). -/
def routePacket (c : ConnectionState) (id : W16) (encrypted : Bool) (payload : Bytes) : Route :=
  if encrypted && c != .done then .violation
  else if id = 0x5000 then
    match expectedFlag c, payload with
    | some flag, b :: _ => if b = flag then .handshake else .violation
    | _, _ => .violation
  else .queue

end Sys2Proof.Machine
end

