-- ==== Sys2Proof/Machine/Script.lean ====
section
/-! DEFINITION. The script notation of 30_encoding.md R64: a command line and its response as text (lists of
characters). It is notation only; no step uses it. -/

namespace Sys2Proof.Machine

/-- One upper-case hex digit. -/
def hexDigit (n : Nat) : Char :=
  ['0', '1', '2', '3', '4', '5', '6', '7', '8', '9', 'A', 'B', 'C', 'D', 'E', 'F'].getD (n % 16) '0'

/-- A number as `digits` hex digits: a W32 is 8, a W16 is 4, a W8 is 2 (R64). -/
def hexText (digits v : Nat) : List Char :=
  ((List.range digits).reverse.map fun i => hexDigit (v / 16 ^ i))

/-- A byte buffer: its bytes in buffer order, two digits each, `-` for the empty buffer (R64). -/
def bytesText (b : Bytes) : List Char :=
  if b.isEmpty then ['-'] else b.flatMap fun x => hexText 2 x.toNat

/-- A bit is `0` or `1` (R64). -/
def bitText (b : Bool) : List Char := if b then ['1'] else ['0']

/-- ` name=value` (R64). -/
def fieldText (name : String) (value : List Char) : List Char := ' ' :: name.toList ++ '=' :: value

/-- A command line: `MNEMONIC name=value ...` with the operand names of R57 (R64). -/
def instrText (i : Instr) : List Char :=
  match i with
  | .init key => "INIT".toList ++ fieldText "key" (bytesText key)
  | .encipher left right =>
      "ENCIPHER".toList ++ fieldText "left" (hexText 8 left.toNat) ++ fieldText "right" (hexText 8 right.toNat)
  | .decipher left right =>
      "DECIPHER".toList ++ fieldText "left" (hexText 8 left.toNat) ++ fieldText "right" (hexText 8 right.toNat)
  | .xformEnc buf => "XFORM_ENC".toList ++ fieldText "buf" (bytesText buf)
  | .xformDec buf => "XFORM_DEC".toList ++ fieldText "buf" (bytesText buf)
  | .encode id encrypted payload securityByte checksumByte =>
      "ENCODE".toList ++ fieldText "id" (hexText 4 id.toNat) ++ fieldText "encrypted" (bitText encrypted) ++
        fieldText "payload" (bytesText payload) ++ fieldText "securityByte" (hexText 2 securityByte.toNat) ++
        fieldText "checksumByte" (hexText 2 checksumByte.toNat)
  | .decode lengthWord idWord count checksum payload =>
      "DECODE".toList ++ fieldText "lengthWord" (hexText 4 lengthWord.toNat) ++
        fieldText "idWord" (hexText 4 idWord.toNat) ++ fieldText "count" (hexText 2 count.toNat) ++
        fieldText "checksum" (hexText 2 checksum.toNat) ++ fieldText "payload" (bytesText payload)
  | .status => "STATUS".toList

/-- The results of a command that completes, with the result names of R57. -/
def resultsText (r : Results) : List Char :=
  match r with
  | .none => " OK".toList
  | .block left right => fieldText "left'" (hexText 8 left.toNat) ++ fieldText "right'" (hexText 8 right.toNat)
  | .out b => fieldText "out" (bytesText b)
  | .frame b => fieldText "frame" (bytesText b)
  | .packet id encrypted payload =>
      fieldText "id" (hexText 4 id.toNat) ++ fieldText "encrypted" (bitText encrypted) ++
        fieldText "payload" (bytesText payload)
  | .status sw => fieldText "sw" (hexText 4 sw.toNat)

/-- The name of a fault code (R190); a code the table does not list has no name. -/
def faultText (code : Byte) : List Char :=
  match code.toNat with
  | 0x01 => "InvalidKey".toList
  | 0x02 => "InvalidBlockLength".toList
  | 0x03 => "FramingError".toList
  | 0x04 => "ProtocolViolation".toList
  | 0x05 => "AuthenticationFailed".toList
  | 0x10 => "NotKeyed".toList
  | 0x11 => "IllegalCommand".toList
  | _ => []

/-- A whole line: the command, ` ->`, and its results, or `!FaultName` for a faulting command (R64). -/
def lineText (i : Instr) (r : Response) : List Char :=
  instrText i ++ " ->".toList ++
    match r with
    | .ok results => resultsText results
    | .fault code => ' ' :: '!' :: faultText code

/-- `RESET` on a line of its own is the reset event (R64). -/
def resetText : List Char := "RESET".toList

end Sys2Proof.Machine
end

