-- ==== Sys2Proof/Tests/Slice0.lean ====
section
/-! SUPPORT. Tests on small states, each expected value from the file of spec/ its comment names, and for each
statement with hypotheses a theorem that shows a concrete state and operands that meet them. -/

namespace Sys2Proof.Tests

open Sys2Proof Sys2Proof.Machine

/-! ## Small states -/

/-- A configuration with the given initial tables. -/
def cfgOf (blockOrder : BlockOrder) (lenMask : LenMask) : Cfg where
  blockOrder := blockOrder
  lenMask := lenMask
  pInit := pInit
  sInit := sInit
  calcUnit := 0

/-- An unkeyed block with no fault: zero arrays, big-endian halves, the 15-bit mask. -/
def idle : State where
  P := Vector.replicate 18 0
  S := Vector.replicate 4 (Vector.replicate 256 0)
  keyed := false
  fault := 0
  cfg := cfgOf .big .low15
  port := []
  response := none
  resets := 0

/-- The same block, keyed, its arrays the initial constants (the arrays of INIT's first encryption). -/
def keyed : State := { idle with P := pInit, S := sInit, keyed := true }

/-- The keyed block with little-endian halves. -/
def keyedLittle : State := { keyed with cfg := cfgOf .little .low15 }

/-- The unkeyed block with the 11-bit mask. -/
def idle11 : State := { idle with cfg := cfgOf .big .low11 }

/-- The keyed block with `InvalidBlockLength` latched. -/
def faulted : State := { keyed with fault := 0x02 }

/-- The response a result leaves at the port. -/
def responseOf (r : Result) : Option Response :=
  match r with
  | .next t => t.response
  | .fault _ => none
  | .refused _ => none

/-- The checksum stub of 95_test_vectors.md: the sum of all bytes, XOR 0xA5. -/
def calcT (f : Bytes) : Byte := f.foldl (· + ·) 0 ^^^ 0xA5

/-! ## Decoding, from the opcode map of 30_encoding.md R56 -/

theorem test_decode_init : decode ⟨0b00000001, { key := [1, 2, 3, 4] }⟩ = .instr (.init [1, 2, 3, 4]) := by decide
theorem test_decode_encipher : decode ⟨0b00000010, { left := 5, right := 6 }⟩ = .instr (.encipher 5 6) := by decide
theorem test_decode_decipher : decode ⟨0b00000011, { left := 5, right := 6 }⟩ = .instr (.decipher 5 6) := by decide
theorem test_decode_xformEnc : decode ⟨0b00000100, { buf := [7] }⟩ = .instr (.xformEnc [7]) := by decide
theorem test_decode_xformDec : decode ⟨0b00000101, { buf := [7] }⟩ = .instr (.xformDec [7]) := by decide
theorem test_decode_encode :
    decode ⟨0b00001000, { id := 0x2002, encrypted := true, payload := [9], securityByte := 0xA7, checksumByte := 1 }⟩ =
      .instr (.encode 0x2002 true [9] 0xA7 1) := by decide
theorem test_decode_decode :
    decode ⟨0b00001001, { lengthWord := 0x8001, idWord := 0x7001, count := 0x3C, checksum := 0x5A, payload := [9] }⟩ =
      .instr (.decode 0x8001 0x7001 0x3C 0x5A [9]) := by decide
theorem test_decode_status : decode ⟨0b00001111, {}⟩ = .instr .status := by decide
theorem test_decode_unlisted : decode ⟨0x06, { key := [1] }⟩ = .illegal 0x06 := by decide

/-! ## Well-formedness: one ill-formed command for each check -/

theorem test_wellFormed_refuses_unlisted_opcode : Command.wellFormed ⟨0x07, {}⟩ = false := by decide
theorem test_wellFormed_refuses_busy_lane : Command.wellFormed ⟨0x02, { left := 1, key := [0] }⟩ = false := by decide
theorem test_wellFormed_accepts : Command.wellFormed ⟨0x02, { left := 1, right := 2 }⟩ = true := by decide

/-! ## Cipher functions -/

/-- 42 R108 and 95 section 5: both additions drop a carry. -/
theorem test_roundF_wraps : roundF sInit 0x00000000 = 0x2FCFF51E := by decide +kernel
/-- 95 section 5: tells the byte order of the index. -/
theorem test_roundF_byteOrder : roundF sInit 0x01020304 = 0x3CEDFF8C := by decide +kernel
/-- 40 example 3: the chunks of a 5-byte key wrap byte by byte. -/
theorem test_chunk_wraps :
    [chunk [1, 2, 3, 4, 5] 0, chunk [1, 2, 3, 4, 5] 1, chunk [1, 2, 3, 4, 5] 2] =
      [0x01020304, 0x05010203, 0x04050102] := by decide
/-- 41 R92: XOR of all words of `p_init` and of each table. -/
theorem test_constants_xor :
    (pInitWords.foldl (· ^^^ ·) 0, [sInit0Words, sInit1Words, sInit2Words, sInit3Words].map (·.foldl (· ^^^ ·) 0)) =
      (0xB73AD7EA, [0x4EB4DB7F, 0xC727E122, 0x462A5D01, 0x1779E2BC]) := by decide +kernel

/-! ## INIT -/

/-- 40 example 1: the second encryption of INIT uses the P[0], P[1] the first one stored. -/
theorem test_init_second_pair :
    ((keySchedule idle.cfg [0, 0, 0, 0, 0, 0, 0, 0]).P.get 2,
        (keySchedule idle.cfg [0, 0, 0, 0, 0, 0, 0, 0]).P.get 3) =
      (0x2DB9D714, 0x966E1439) := by decide +kernel
/-- 95 vectors 4.10 and 9.10: a 3-byte key. -/
theorem test_init_short_key : responseOf (exec (.init [0, 0, 0]) idle) = some (.fault 0x01) := by decide

/-! ## ENCIPHER, DECIPHER, XFORM: 95 vector 4.13, Enc(0, 0) on the initial constants is (706D9FCC, 1792D23A) -/

theorem test_encipher :
    responseOf (exec (.encipher 0 0) keyed) = some (.ok (.block 0x706D9FCC 0x1792D23A)) := by decide +kernel
/-- 95 vector 9.3. -/
theorem test_encipher_unkeyed : responseOf (exec (.encipher 0 0) idle) = some (.fault 0x10) := by decide
theorem test_decipher :
    responseOf (exec (.decipher 0x706D9FCC 0x1792D23A) keyed) = some (.ok (.block 0 0)) := by decide +kernel
/-- Bytes as R33 lays them out, most significant byte of each half first. -/
theorem test_xformEnc_big :
    responseOf (exec (.xformEnc [0, 0, 0, 0, 0, 0, 0, 0]) keyed) =
      some (.ok (.out [0x70, 0x6D, 0x9F, 0xCC, 0x17, 0x92, 0xD2, 0x3A])) := by decide +kernel
/-- The same words, each half's bytes reversed (R33). -/
theorem test_xformEnc_little :
    responseOf (exec (.xformEnc [0, 0, 0, 0, 0, 0, 0, 0]) keyedLittle) =
      some (.ok (.out [0xCC, 0x9F, 0x6D, 0x70, 0x3A, 0xD2, 0x92, 0x17])) := by decide +kernel
theorem test_xformDec_big :
    responseOf (exec (.xformDec [0x70, 0x6D, 0x9F, 0xCC, 0x17, 0x92, 0xD2, 0x3A]) keyed) =
      some (.ok (.out [0, 0, 0, 0, 0, 0, 0, 0])) := by decide +kernel
/-- 95 vector 9.4: not keyed and bad length is NotKeyed. -/
theorem test_xformDec_unkeyed_first :
    responseOf (exec (.xformDec [0, 0, 0, 0, 0, 0, 0, 0, 0]) idle) = some (.fault 0x10) := by decide

/-! ## ENCODE, DECODE -/

/-- 95 vector 8.3 under the stub. -/
theorem test_frame_encrypted :
    buildFrame calcT 0x7001 true [0x4E, 0xF9, 0x97, 0x45, 0x61, 0x98, 0xDD, 0x78] 0x3C 0x00 =
      [0x08, 0x80, 0x01, 0x70, 0x3C, 0x03, 0x4E, 0xF9, 0x97, 0x45, 0x61, 0x98, 0xDD, 0x78] := by decide
/-- 95 vector 8.2: the placeholder takes part in the checksum. -/
theorem test_frame_placeholder :
    buildFrame calcT 0x2002 false [] 0xA7 0xFF = [0x00, 0x00, 0x02, 0x20, 0xA7, 0x6D] := by decide
/-- 95 vector 8.15: bits 14:11 count under the 15-bit mask, and are ignored under the 11-bit one. -/
theorem test_decode_mask15 :
    responseOf (exec (.decode 0x7808 0x7001 0 0 [0, 0, 0, 0, 0, 0, 0, 0]) idle) = some (.fault 0x03) := by decide
theorem test_decode_mask11 :
    responseOf (exec (.decode 0x7808 0x7001 0 0 [0, 0, 0, 0, 0, 0, 0, 0]) idle11) =
      some (.ok (.packet 0x7001 false [0, 0, 0, 0, 0, 0, 0, 0])) := by decide

/-! ## STATUS, refusal, reset, the port -/

/-- 95 vector 9.5: keyed, InvalidBlockLength latched. -/
theorem test_status_faulted : responseOf (exec .status faulted) = some (.ok (.status 0x0102)) := by decide
/-- 95 vector 9.7: an illegal opcode on a faulted block gets the latched code. -/
theorem test_illegal_refused :
    responseOf (step { faulted with port := [.command ⟨0x07, {}⟩] }) = some (.fault 0x02) := by decide
/-- 95 vector 9.8. -/
theorem test_illegal_raises :
    responseOf (step { idle with port := [.command ⟨0x06, {}⟩] }) = some (.fault 0x11) := by decide
/-- 95 vector 9.13: after RESET the status word is 0000. -/
theorem test_reset_clears :
    responseOf (exec .status ({ faulted with port := [.reset] } : State).applyReset) = some (.ok (.status 0x0000)) := by
  decide
/-- The word placed for a fetch is the next command run, from reset. -/
theorem test_withFetchWord : step (State.reset.withFetchWord 8 0x0F) = exec .status State.reset := rfl

/-! ## Frames on the wire, script notation, the host's arithmetic -/

/-- 95 section 8.3: FrameSplit of vector 8.5 gives the operands of 8.19. -/
theorem test_frameSplit :
    frameSplit [0x05, 0x00, 0x34, 0x12, 0x5A, 0x7B, 0xDE, 0xAD, 0xBE, 0xEF, 0x01] =
      some ⟨0x0005, 0x1234, 0x5A, 0x7B, [0xDE, 0xAD, 0xBE, 0xEF, 0x01]⟩ := by decide
/-- 30 R64: the form of a command line. -/
theorem test_script :
    instrText (.encipher 0 0x9ABCDEF0) =
      "ENCIPHER left=00000000 right=9ABCDEF0".toList := by decide +kernel
/-- 95 section 10.1: the first two security bytes. -/
theorem test_securityNext :
    ((securityNext ⟨0x12, 0x34, 0x56⟩).1, (securityNext (securityNext ⟨0x12, 0x34, 0x56⟩).2).1) = (0x17, 0x6E) := by
  decide
/-- 95 section 10.2, row 2. -/
theorem test_keyMix :
    keyMix [1, 2, 3, 4, 5, 6, 7, 8] 0x11223344 3 = [0x49, 0x3A, 0x2B, 0x1C, 0x49, 0x3A, 0x2B, 0x14] := by decide
/-- 95 section 10.3: the 36 bytes of the setup fields. -/
theorem test_parseSetup :
    parseSetup ([0, 0, 0, 0, 0, 0, 0, 0, 0xC7, 0, 0, 0, 0x78, 0x56, 0x34, 0x12] ++ [1, 2, 3, 4, 5, 6, 7, 8] ++
      [5, 0, 0, 0, 0xFF, 0xFF, 0xFF, 0x7F, 0x01, 0x77, 0xE1, 0x75]) =
      some ⟨0x000000C7, 0x12345678, [1, 2, 3, 4, 5, 6, 7, 8], 5, 0x7FFFFFFF, 0x75E17701⟩ := by decide
/-- 95 section 10.3: client public value, shared secret, interim key. -/
theorem test_handshake :
    (modExpSecret 5 0x7FFFFFFF, modExpSecret 0x75E17701 0x7FFFFFFF,
      interimKey 0x75E17701 0x46582319 0x0BE63BD3) =
      (0x46582319, 0x0BE63BD3, [0xD6, 0xC2, 0x2B, 0xF6, 0xF6, 0x42, 0x19, 0x12]) := by decide +kernel
/-- 95 section 10.3: both challenges before enciphering, and the final key. -/
theorem test_handshake_challenges :
    (clientChallengePlain 0x75E17701 0x46582319 0x0BE63BD3, serverChallengePlain 0x75E17701 0x46582319 0x0BE63BD3,
      finalKey [1, 2, 3, 4, 5, 6, 7, 8] 0x0BE63BD3) =
      ([0xF4, 0x7C, 0x67, 0x14, 0xD4, 0xC4, 0x29, 0xF4], [0xD4, 0xC4, 0x29, 0xF4, 0xF4, 0x7C, 0x67, 0x14],
       [0xD6, 0x42, 0xEF, 0x16, 0xDE, 0x42, 0xF7, 0x1E]) := by decide +kernel

end Sys2Proof.Tests
end

