-- ==== Sys2Proof/Tests/Witnesses.lean ====
section
/-! SUPPORT. For each statement of Certificates/Slice0/Obligations.lean that has hypotheses, a concrete state and
operands that meet all of them together, one witness for each clause, at the boundary of its range. -/

namespace Sys2Proof.Tests

open Sys2Proof Sys2Proof.Machine

/-- A keyed block that INIT can reach: the schedule of a real key. -/
def scheduled : State := (idle.install (keySchedule idle.cfg [1, 2, 3, 4])).deliver .none

/-- The same with a bad XFORM length latched and answered. -/
def scheduledFaulted : State := scheduled.raise .invalidBlockLength

/-! ## Reset, the port, the invariant -/

theorem witness_StepKeepsBlockInv_unkeyed :
    BlockInv { idle with port := [.command ⟨0x02, {}⟩] } ∧
      ∃ t, step { idle with port := [.command ⟨0x02, {}⟩] } = .next t :=
  ⟨⟨.inl rfl, by simp [idle], by decide, by decide, by simp [idle]⟩, _, rfl⟩

theorem witness_StepKeepsBlockInv_keyedFaulted :
    BlockInv scheduledFaulted ∧ ∃ t, step scheduledFaulted = .next t :=
  ⟨⟨.inr (by decide), fun _ => ⟨[1, 2, 3, 4], by decide, by simp [scheduledFaulted, scheduled]⟩,
    by decide, fun _ => rfl, by simp [scheduledFaulted, FaultName.code]⟩, _, step_idle rfl⟩

theorem witness_ResetEventForgetsEverything : ({ faulted with port := [.reset] } : State).port = .reset :: [] := rfl

theorem witness_StepRunsDecodedCommand :
    ({ keyed with port := [.command ⟨0x02, { left := 1, right := 2 }⟩] } : State).port =
      .command ⟨0x02, { left := 1, right := 2 }⟩ :: [] ∧
    decode ⟨0x02, { left := 1, right := 2 }⟩ = .instr (.encipher 1 2) := by decide

theorem witness_UnpromptedBlockStays : keyed.port = [] := rfl

theorem witness_EveryCommandIsAnswered :
    ({ keyed with port := [.command ⟨0x06, {}⟩] } : State).port = .command ⟨0x06, {}⟩ :: [] := rfl

theorem witness_StepKeepsConfiguration : ∃ t, step { idle with port := [.reset] } = .next t := ⟨_, rfl⟩

/-! ## Encoding -/

theorem witness_DecodeEncodeAgree : Command.wellFormed ⟨0x08, { id := 0x2002, securityByte := 0xA7 }⟩ = true := by
  decide

theorem witness_IllegalOpcodeRaises :
    idle.fault = 0 ∧ ∀ op ∈ [(0x00 : Byte), 0x06, 0x07, 0x0A, 0x0E, 0x10, 0xFF],
      op.toNat ∉ [0x01, 0x02, 0x03, 0x04, 0x05, 0x08, 0x09, 0x0F] := by decide

/-! ## Faults -/

theorem witness_FaultedBlockRefuses_legal :
    ({ faulted with port := [.command ⟨0x01, {}⟩] } : State).port = .command ⟨0x01, {}⟩ :: [] ∧
      faulted.fault ≠ 0 ∧ (0x01 : Byte) ≠ 0x0F := by decide

theorem witness_FaultedBlockRefuses_illegal :
    ({ faulted with port := [.command ⟨0x10, {}⟩] } : State).port = .command ⟨0x10, {}⟩ :: [] ∧
      faulted.fault ≠ 0 ∧ (0x10 : Byte) ≠ 0x0F := by decide

theorem witness_FaultsArePrecise :
    ∃ t, step { idle with port := [.command ⟨0x02, {}⟩] } = .next t ∧ t.response = some (.fault 0x10) :=
  ⟨_, rfl, rfl⟩

/-- A command that completes and one that is refused. -/
theorem witness_StatusByteTellsFault :
    (∃ t, step { faulted with port := [.command ⟨0x0F, {}⟩] } = .next t) ∧
      ∃ t, step { faulted with port := [.command ⟨0x02, {}⟩] } = .next t :=
  ⟨⟨_, rfl⟩, ⟨_, rfl⟩⟩

theorem witness_FaultLatchedUntilReset_latched :
    faulted.fault ≠ 0 ∧ ∃ t, step { faulted with port := [.command ⟨0x0F, {}⟩] } = .next t := ⟨by decide, _, rfl⟩

theorem witness_FaultLatchedUntilReset_clear :
    idle.fault = 0 ∧ ∃ t, step { idle with port := [.command ⟨0x06, {}⟩] } = .next t ∧ t.fault ≠ 0 :=
  ⟨rfl, _, rfl, by decide⟩

theorem witness_CommandTwiceIsCommandOnce : ∃ t, exec (.xformEnc [1]) keyed = .next t := ⟨_, rfl⟩

/-! ## The key schedule and INIT: keys of 3, 4, 56 and 57 bytes -/

theorem witness_KeyChunkIsCyclicBigEndian : 0 < ([1, 2, 3, 4, 5] : Bytes).length := by decide

theorem witness_ScheduleDependsOnChunksOnly :
    (∀ i, i < 18 → chunk [0, 0, 0, 0] i = chunk [0, 0, 0, 0, 0] i) ∧ ([0xAA, 0xBB, 0xCC, 0xDD] : Bytes) ≠ [] := by
  decide

theorem witness_InitInstallsSchedule :
    idle.fault = 0 ∧ 4 ≤ (List.replicate 4 (0 : Byte)).length ∧ (List.replicate 56 (0 : Byte)).length ≤ 56 := by
  decide

theorem witness_InitRefusesWrongKeyLength :
    idle.fault = 0 ∧
      8 * (List.replicate 3 (0 : Byte)).length < 32 ∧ 448 < 8 * (List.replicate 57 (0 : Byte)).length ∧
      (32 ≤ 8 * (List.replicate 4 (0 : Byte)).length ∧ 8 * (List.replicate 4 (0 : Byte)).length ≤ 448) ∧
      (32 ≤ 8 * (List.replicate 56 (0 : Byte)).length ∧ 8 * (List.replicate 56 (0 : Byte)).length ≤ 448) := by
  decide

theorem witness_SecondInitDiscardsFirstKey :
    idle.fault = 0 ∧ exec (.init [1, 2, 3, 4]) idle = .next scheduled ∧
      4 ≤ ([9, 8, 7, 6, 5] : Bytes).length ∧ ([9, 8, 7, 6, 5] : Bytes).length ≤ 56 := by
  refine ⟨rfl, ?_, by decide, by decide⟩
  unfold scheduled
  exact execInit_legal rfl (by decide)

theorem witness_OnlyInitAndResetWriteArrays :
    step { idle with port := [.command ⟨0x01, { key := [1, 2, 3, 4] }⟩] } = .next scheduled := by
  rw [step_instr (i := .init [1, 2, 3, 4]) rfl rfl]
  unfold scheduled
  exact execInit_legal rfl (by decide)

theorem witness_UnkeyedArraysAreUnobservable :
    idle.keyed = false ∧ idle.sameButSchedule { idle with P := pInit, S := sInit } :=
  ⟨rfl, rfl, rfl, rfl, rfl, rfl, rfl⟩

/-! ## The cipher data commands -/

theorem witness_keyed_clear :
    keyed.fault = 0 ∧ keyed.keyed = true ∧ keyed.cfg.blockOrder = .big ∧
      keyedLittle.fault = 0 ∧ keyedLittle.keyed = true ∧ keyedLittle.cfg.blockOrder = .little := by decide

theorem witness_BlockCommandsAnswer : keyed.fault = 0 ∧ keyed.keyed = true := by decide

theorem witness_DecipherUndoesEncipher : keyedLittle.fault = 0 ∧ keyedLittle.keyed = true := by decide

theorem witness_UnkeyedDataCommandsRaise :
    (∃ buf, Instr.xformEnc [0] = .xformEnc buf) ∧ idle.fault = 0 ∧ idle.keyed = false :=
  ⟨⟨_, rfl⟩, rfl, rfl⟩

/-- Lengths 0, 8 and 16 meet the first clause, 7 and 9 the second, and an unkeyed block the third. -/
theorem witness_XformEncTransformsSlices :
    (keyed.fault = 0 ∧ keyed.keyed = true ∧ ([] : Bytes).length % 8 = 0 ∧
      (List.replicate 8 (0 : Byte)).length % 8 = 0 ∧ 0 < (List.replicate 8 (0 : Byte)).length / 8) ∧
    ((List.replicate 7 (0 : Byte)).length % 8 ≠ 0 ∧ (List.replicate 9 (0 : Byte)).length % 8 ≠ 0) ∧
    (idle.fault = 0 ∧ idle.keyed = false) := by decide

theorem witness_XformDecTransformsSlices :
    (keyedLittle.fault = 0 ∧ keyedLittle.keyed = true ∧ (List.replicate 16 (0 : Byte)).length % 8 = 0 ∧
      1 < (List.replicate 16 (0 : Byte)).length / 8) ∧
    (List.replicate 15 (0 : Byte)).length % 8 ≠ 0 ∧ (idle.fault = 0 ∧ idle.keyed = false) := by decide

theorem witness_XformRoundTrips :
    keyed.fault = 0 ∧ keyed.keyed = true ∧ ([1, 2, 3, 4, 5, 6, 7, 8] : Bytes).length % 8 = 0 := by decide

theorem witness_XformOfConcatenation : ([1, 2, 3, 4, 5, 6, 7, 8] : Bytes).length % 8 = 0 := by decide

/-- A function that reverses each group of four bytes of every slice, as the statement asks. -/
def rev4 : Bytes → Bytes
  | b0 :: b1 :: b2 :: b3 :: b4 :: b5 :: b6 :: b7 :: rest =>
    b3 :: b2 :: b1 :: b0 :: b7 :: b6 :: b5 :: b4 :: rev4 rest
  | _ => []

theorem witness_XformByteOrdersAgree :
    rev4 [] = [] ∧
    (∀ (b0 b1 b2 b3 b4 b5 b6 b7 : Byte) (rest : Bytes),
      rev4 (b0 :: b1 :: b2 :: b3 :: b4 :: b5 :: b6 :: b7 :: rest) =
        b3 :: b2 :: b1 :: b0 :: b7 :: b6 :: b5 :: b4 :: rev4 rest) ∧
    ([1, 2, 3, 4, 5, 6, 7, 8] : Bytes).length % 8 = 0 :=
  ⟨by simp [rev4], fun _ _ _ _ _ _ _ _ _ => by rw [rev4], rfl⟩

theorem witness_XformAgreesWithEncipher : keyedLittle.fault = 0 ∧ keyedLittle.keyed = true := by decide

/-! ## The framer: payloads at the mask and one past it -/

theorem witness_EncodeBuildsFrame :
    idle.fault = 0 ∧ ([] : Bytes).length ≤ (maskWord idle.cfg.lenMask).toNat ∧
      (List.replicate 2047 (0 : Byte)).length ≤ (maskWord idle11.cfg.lenMask).toNat := by
  simp only [List.length_replicate]
  decide

theorem witness_FrameLengthFromFirstTwoBytes :
    ∃ t frame, exec (.encode 0x2002 false [] 0xA7 0) idle = .next t ∧ t.response = some (.ok (.frame frame)) :=
  ⟨_, _, rfl, rfl⟩

theorem witness_EncodeRefusesLongPayload :
    (idle.fault = 0 ∧ idle.cfg.lenMask = .low15 ∧ 0x7FFF < (List.replicate 32768 (0 : Byte)).length) ∧
      (idle11.fault = 0 ∧ idle11.cfg.lenMask = .low11 ∧ 0x07FF < (List.replicate 2048 (0 : Byte)).length) := by
  simp only [List.length_replicate]
  decide

/-- 95 vector 8.15: the same command meets the second clause under the 15-bit mask and the first under the 11-bit. -/
theorem witness_DecodeReturnsPacket :
    (idle.fault = 0 ∧ ([0, 0, 0, 0, 0, 0, 0, 0] : Bytes).length ≠ (0x7808 : W16).toNat % 2 ^ 15) ∧
      (idle11.fault = 0 ∧ ([0, 0, 0, 0, 0, 0, 0, 0] : Bytes).length = (0x7808 : W16).toNat % 2 ^ 11) := by decide

theorem witness_DecodeIgnoresBits14To11 :
    idle11.cfg.lenMask = .low11 ∧ (0x7808 : W16) &&& 0x87FF = (0x0008 : W16) &&& 0x87FF ∧
      (0x7808 : W16) ≠ 0x0008 := by decide

theorem witness_CodecRoundTrips :
    idle.fault = 0 ∧ ([0xDE, 0xAD] : Bytes).length ≤ (maskWord idle.cfg.lenMask).toNat := by decide

theorem witness_ReframingGivesFrameBack :
    idle11.fault = 0 ∧ frameSplit [0x01, 0x78, 0x34, 0x12, 0x5A, 0x7B, 0xDE] = some ⟨0x7801, 0x1234, 0x5A, 0x7B, [0xDE]⟩ ∧
      ([0xDE] : Bytes).length = lengthField idle11.cfg.lenMask 0x7801 := by decide

theorem witness_FramerIgnoresCipher :
    (∃ id encrypted payload securityByte checksumByte,
      Instr.encode 0 false [] 0 0 = .encode id encrypted payload securityByte checksumByte) ∧
      ∃ t, exec (.encode 0 false [] 0 0) idle = .next t :=
  ⟨⟨_, _, _, _, _, rfl⟩, _, rfl⟩

theorem witness_SendEncThenRecvReturnsPayload :
    keyed.fault = 0 ∧ keyed.keyed = true ∧ ([1, 2, 3, 4, 5, 6, 7, 8] : Bytes).length % 8 = 0 ∧
      ([1, 2, 3, 4, 5, 6, 7, 8] : Bytes).length ≤ (maskWord keyed.cfg.lenMask).toNat := by decide

/-! ## The configuration: one witness for each clause, the other configuration different outside it -/

theorem witness_CommandsReadTheirConfiguration_init :
    (∃ t, exec (.init [1, 2, 3, 4]) idle = .next t) ∧
      keyedLittle.cfg.pInit = idle.cfg.pInit ∧ keyedLittle.cfg.sInit = idle.cfg.sInit ∧
      keyedLittle.cfg.blockOrder ≠ idle.cfg.blockOrder :=
  ⟨⟨_, execInit_legal rfl (by decide)⟩, rfl, rfl, by decide⟩

theorem witness_CommandsReadTheirConfiguration_xform :
    (∃ t, exec (.xformEnc [1]) keyed = .next t) ∧ idle11.cfg.blockOrder = keyed.cfg.blockOrder ∧
      idle11.cfg.lenMask ≠ keyed.cfg.lenMask :=
  ⟨⟨_, rfl⟩, rfl, by decide⟩

theorem witness_CommandsReadTheirConfiguration_framer :
    (∃ t, exec (.encode 0 false [] 0 0) idle = .next t) ∧ (∃ t, exec (.decode 0 0 0 0 []) idle = .next t) ∧
      keyedLittle.cfg.lenMask = idle.cfg.lenMask ∧ keyedLittle.cfg.calc = idle.cfg.calc ∧
      keyedLittle.cfg.blockOrder ≠ idle.cfg.blockOrder :=
  ⟨⟨_, rfl⟩, ⟨_, rfl⟩, rfl, rfl, by decide⟩

end Sys2Proof.Tests
end

/-! ## The initial tables after reset

A table of words and the list of numbers it is written from: the XOR, the first and the last word of the one are those
of the other. R92's check values are then facts about the lists of numbers of R90 and R91. -/

namespace Sys2Proof.Machine

@[simp] theorem tableOfWords_toList {n : Nat} {ws : List Nat} (h : ws.length = n) :
    (tableOfWords n ws h).toList = ws.map (BitVec.ofNat 32) := rfl

/-- The XOR of words is the word of the XOR of the numbers they are written from. -/
theorem foldl_xor_map_ofNat (ws : List Nat) (a : Nat) :
    (ws.map (BitVec.ofNat 32)).foldl (· ^^^ ·) (BitVec.ofNat 32 a) = BitVec.ofNat 32 (ws.foldl (· ^^^ ·) a) := by
  induction ws generalizing a with
  | nil => rfl
  | cons w ws ih =>
    rw [List.map_cons, List.foldl_cons, List.foldl_cons, ← BitVec.ofNat_xor, ih]

/-- The numbers of the four tables of `CFG.s_init` (R91), `S[0]` first. -/
def sInitWords : List (List Nat) := [sInit0Words, sInit1Words, sInit2Words, sInit3Words]

/-- The four tables of `sInit` hold the words of `sInitWords`. -/
theorem sInit_toList_map_toList :
    sInit.toList.map Vector.toList = sInitWords.map (List.map (BitVec.ofNat 32)) := rfl

/-- Any function of the tables' words is computed from the numbers of R91. -/
theorem sInit_toList_map {β : Type} (f : List W32 → β) :
    sInit.toList.map (fun table => f table.toList) = sInitWords.map (fun ws => f (ws.map (BitVec.ofNat 32))) := by
  simpa only [List.map_map, Function.comp_def] using congrArg (List.map f) sInit_toList_map_toList

/-! The check values of R92 and the ends of R90 and R91, of the numbers. -/

theorem pInitWords_xor : pInitWords.foldl (· ^^^ ·) 0 = 0xB73AD7EA := by decide

theorem sInitWords_xor :
    sInitWords.map (·.foldl (· ^^^ ·) 0) = [0x4EB4DB7F, 0xC727E122, 0x462A5D01, 0x1779E2BC] := by decide +kernel

theorem sInitWords_ends :
    sInitWords.map (fun ws => (ws.head?, ws.getLast?)) =
      [(some 0xD1310BA6, some 0x6E85076A), (some 0x4B7A70E9, some 0xDB83ADF7),
        (some 0xE93D5A68, some 0x406000E0), (some 0x3A39CE37, some 0x3AC372E6)] := by decide +kernel

/-! The same of the tables. -/

theorem pInit_xor : pInit.toList.foldl (· ^^^ ·) 0 = 0xB73AD7EA := by
  rw [pInit, tableOfWords_toList]
  exact (foldl_xor_map_ofNat pInitWords 0).trans (congrArg (BitVec.ofNat 32) pInitWords_xor)

theorem sInit_xor :
    sInit.toList.map (fun table => table.toList.foldl (· ^^^ ·) 0) =
      [0x4EB4DB7F, 0xC727E122, 0x462A5D01, 0x1779E2BC] :=
  calc sInit.toList.map (fun table => table.toList.foldl (· ^^^ ·) 0)
    _ = sInitWords.map (fun ws => BitVec.ofNat 32 (ws.foldl (· ^^^ ·) 0)) := by
      rw [sInit_toList_map (·.foldl (· ^^^ ·) 0)]
      exact List.map_congr_left fun ws _ => foldl_xor_map_ofNat ws 0
    _ = (sInitWords.map (·.foldl (· ^^^ ·) 0)).map (BitVec.ofNat 32) := by rw [List.map_map]; rfl
    _ = [0x4EB4DB7F, 0xC727E122, 0x462A5D01, 0x1779E2BC] := by rw [sInitWords_xor]; rfl

theorem sInit_ends :
    sInit.toList.map (fun table => (table.toList.head?, table.toList.getLast?)) =
      [(some 0xD1310BA6, some 0x6E85076A), (some 0x4B7A70E9, some 0xDB83ADF7),
        (some 0xE93D5A68, some 0x406000E0), (some 0x3A39CE37, some 0x3AC372E6)] :=
  calc sInit.toList.map (fun table => (table.toList.head?, table.toList.getLast?))
    _ = (sInitWords.map fun ws => (ws.head?, ws.getLast?)).map
          (Prod.map (Option.map (BitVec.ofNat 32)) (Option.map (BitVec.ofNat 32))) := by
      rw [sInit_toList_map (fun l => (l.head?, l.getLast?))]
      simp only [List.map_map, Function.comp_def, List.head?_map, List.getLast?_map, Prod.map]
    _ = _ := by rw [sInitWords_ends]; rfl

/-- Settles O51: the configuration of `State.reset` holds `pInit` and `sInit`, whose check values are those of the
numbers of R90 and R91. -/
theorem resetHasGivenTables : Obligations.ResetHasGivenTables := by
  unfold Obligations.ResetHasGivenTables
  have hp : State.reset.cfg.pInit = pInit := rfl
  have hs : State.reset.cfg.sInit = sInit := rfl
  rw [hp, hs]
  exact ⟨pInit_xor, rfl, rfl, sInit_xor, sInit_ends⟩

end Sys2Proof.Machine

/-! ## What a step can do, and the invariants of every run

One inversion lemma for the step of the block, from the laws of its commands. The invariants of 10_state.md are then
one case analysis each. -/

namespace Sys2Proof.Machine

open Sys2Proof

/-- What holds when the block raises a fault: the code is its own to raise (R198), and the `keyed` check has found
what the fault says (R195, R201). -/
structure MayRaise (s : State) (f : FaultName) : Prop where
  known : f.code ∈ blockCodes
  unkeyed : f = .notKeyed → s.keyed = false
  keyed : f = .invalidBlockLength → s.keyed = true

/-- Every cause a command has for a fault is of that kind. -/
theorem RaisesFor.mayRaise {i : Instr} {s : State} {f : FaultName} (h : RaisesFor i s f) : MayRaise s f := by
  obtain ⟨rfl, -⟩ | ⟨rfl, hk⟩ | ⟨rfl, hk⟩ | rfl := h
  · exact ⟨by decide, nofun, nofun⟩
  · exact ⟨by decide, fun _ => hk, nofun⟩
  · exact ⟨by decide, nofun, fun _ => hk⟩
  · exact ⟨by decide, nofun, nofun⟩

theorem mayRaise_illegalCommand (s : State) : MayRaise s .illegalCommand :=
  ⟨by decide, nofun, nofun⟩

/-- The state left when the port is cut down to the events not yet taken. -/
def State.withPort (s : State) (rest : List PortEvent) : State := { s with port := rest }

@[simp] theorem State.withPort_cfg (s : State) (rest : List PortEvent) : (s.withPort rest).cfg = s.cfg := rfl

/-- The six things a step from `s` can do, each with the state it leads to. -/
inductive StepEffect (s : State) : State → Prop
  /-- Nothing is at the port (R23). -/
  | waits (hp : s.port = []) : StepEffect s s
  /-- The reset event is taken (R220). -/
  | resets {rest : List PortEvent} (hp : s.port = .reset :: rest) : StepEffect s (s.withPort rest).applyReset
  /-- A command completes and writes no state (R58). -/
  | answers {c : Command} {rest : List PortEvent} (hp : s.port = .command c :: rest) (r : Results) :
      StepEffect s ((s.withPort rest).deliver r)
  /-- An INIT installs the schedule of a legal key (R84, R85). -/
  | installs {c : Command} {rest : List PortEvent} {key : Bytes} (hp : s.port = .command c :: rest)
      (hd : decode c = .instr (.init key)) (hf : s.fault = 0) (hk : keyLegal key = true) :
      StepEffect s (((s.withPort rest).install (keySchedule s.cfg key)).deliver .none)
  /-- A command, legal or illegal, raises a fault on a block with none latched (R191). -/
  | raises {c : Command} {rest : List PortEvent} {f : FaultName} (hp : s.port = .command c :: rest)
      (hf : s.fault = 0) (hr : MayRaise s f) : StepEffect s ((s.withPort rest).raise f)
  /-- A command, legal or illegal, is refused with the latched code (R196). -/
  | refuses {c : Command} {rest : List PortEvent} (hp : s.port = .command c :: rest) (hf : s.fault ≠ 0) :
      StepEffect s (s.withPort rest).refuseLatched

/-- Every step does one of the six. -/
theorem stepEffect_of_step {s t : State} (h : step s = .next t) : StepEffect s t := by
  obtain ⟨hp, rfl⟩ | ⟨rest, hp, rfl⟩ | ⟨c, rest, i, hp, hd, hx⟩ | ⟨c, rest, op, hp, hd, hx⟩ := step_cases h
  · exact .waits hp
  · exact .resets hp
  · obtain ⟨r, rfl, -⟩ | ⟨key, rfl, hf, hk, rfl⟩ | ⟨f, hf, rfl, hr⟩ | ⟨hf, -, rfl⟩ := exec_cases hx
    · exact .answers hp r
    · exact .installs hp hd hf hk
    · obtain ⟨known, unkeyed, keyed⟩ := hr.mayRaise
      exact .raises hp hf ⟨known, unkeyed, keyed⟩
    · exact .refuses hp hf
  · obtain ⟨hf, rfl⟩ | ⟨hf, rfl⟩ := illegalCommand_cases hx
    · exact .raises hp hf (mayRaise_illegalCommand s)
    · exact .refuses hp hf

/-! ### The invariant, through each update of the state -/

theorem FaultName.code_injective : Function.Injective FaultName.code := by
  intro f g
  cases f <;> cases g <;> decide

theorem FaultName.code_ne_zero (f : FaultName) : f.code ≠ 0 := by
  cases f <;> decide

namespace BlockInv

variable {s : State}

theorem withPort (hi : BlockInv s) (rest : List PortEvent) : BlockInv (s.withPort rest) where
  faultKnown := hi.faultKnown
  keyedMeansSchedule := hi.keyedMeansSchedule
  notKeyedLatch := hi.notKeyedLatch
  blockLengthLatch := hi.blockLengthLatch
  responseLatched := hi.responseLatched

theorem applyReset (s : State) : BlockInv s.applyReset where
  faultKnown := .inl rfl
  keyedMeansSchedule := by simp
  notKeyedLatch _ := rfl
  blockLengthLatch h := absurd h.symm (FaultName.code_ne_zero _)
  responseLatched := by simp

theorem deliver (hi : BlockInv s) (r : Results) : BlockInv (s.deliver r) where
  faultKnown := hi.faultKnown
  keyedMeansSchedule := by simpa using hi.keyedMeansSchedule
  notKeyedLatch := hi.notKeyedLatch
  blockLengthLatch := hi.blockLengthLatch
  responseLatched := by simp

/-- A schedule is installed on an unfaulted block only, so neither latch clause has anything to say. -/
theorem install (hi : BlockInv s) (hf : s.fault = 0) {key : Bytes} (hk : keyLegal key = true) :
    BlockInv (s.install (keySchedule s.cfg key)) where
  faultKnown := .inl hf
  keyedMeansSchedule _ := ⟨key, hk, by simp⟩
  notKeyedLatch h := absurd (h.symm.trans hf) (FaultName.code_ne_zero _)
  blockLengthLatch _ := rfl
  responseLatched := hi.responseLatched

theorem raise (hi : BlockInv s) {f : FaultName} (hr : MayRaise s f) : BlockInv (s.raise f) where
  faultKnown := .inr hr.known
  keyedMeansSchedule := by simpa using hi.keyedMeansSchedule
  notKeyedLatch h := hr.unkeyed (FaultName.code_injective h)
  blockLengthLatch h := hr.keyed (FaultName.code_injective h)
  responseLatched _ h := by
    cases h
    exact ⟨rfl, f.code_ne_zero⟩

theorem refuseLatched (hi : BlockInv s) (hf : s.fault ≠ 0) : BlockInv s.refuseLatched where
  faultKnown := hi.faultKnown
  keyedMeansSchedule := by simpa using hi.keyedMeansSchedule
  notKeyedLatch := hi.notKeyedLatch
  blockLengthLatch := hi.blockLengthLatch
  responseLatched _ h := by
    cases h
    exact ⟨rfl, hf⟩

end BlockInv

/-- Settles O3: each of the six things a step can do keeps the invariant. -/
theorem stepKeepsBlockInv : Obligations.StepKeepsBlockInv := by
  unfold Obligations.StepKeepsBlockInv
  intro s t hi h
  cases stepEffect_of_step h with
  | waits => exact hi
  | resets => exact .applyReset _
  | answers _ r => exact (hi.withPort _).deliver r
  | @installs _ rest _ _ _ hf hk => exact ((hi.withPort rest).install hf hk).deliver .none
  | raises _ _ hr => exact (hi.withPort _).raise ⟨hr.known, hr.unkeyed, hr.keyed⟩
  | refuses _ hf => exact (hi.withPort _).refuseLatched hf

/-- Settles O8: no effect of a step writes the configuration. -/
theorem stepKeepsConfiguration : Obligations.StepKeepsConfiguration := by
  unfold Obligations.StepKeepsConfiguration
  intro s t h
  cases stepEffect_of_step h <;> simp

/-- Settles O15: the reset event alone clears `fault`, and only a fault raised on an unfaulted block sets it. -/
theorem faultLatchedUntilReset : Obligations.FaultLatchedUntilReset := by
  unfold Obligations.FaultLatchedUntilReset
  intro s t h
  cases stepEffect_of_step h with
  | waits => exact ⟨fun _ => .inl rfl, .inl⟩
  | resets hp => exact ⟨fun _ => .inr ⟨rfl, _, hp⟩, fun _ => .inl rfl⟩
  | answers => exact ⟨fun _ => .inl rfl, .inl⟩
  | installs => exact ⟨fun _ => .inl rfl, .inl⟩
  | raises _ hf hr => exact ⟨absurd hf, fun _ => .inr ⟨hr.known, rfl⟩⟩
  | refuses => exact ⟨fun _ => .inl rfl, .inl⟩

/-- A legal key has 4 to 56 bytes (R81). -/
theorem keyLegal_iff (key : Bytes) : keyLegal key = true ↔ 4 ≤ key.length ∧ key.length ≤ 56 := by
  simp [keyLegal]

/-- Settles O24: of the effects of a step only an installation and the reset event write the arrays. -/
theorem onlyInitAndResetWriteArrays : Obligations.OnlyInitAndResetWriteArrays := by
  unfold Obligations.OnlyInitAndResetWriteArrays
  intro s t h
  cases stepEffect_of_step h with
  | waits => exact .inl ⟨rfl, rfl, rfl⟩
  | resets hp => exact .inr (.inr ⟨_, hp⟩)
  | answers => exact .inl ⟨rfl, rfl, rfl⟩
  | installs hp hd hf hk =>
    obtain ⟨hmin, hmax⟩ := (keyLegal_iff _).1 hk
    exact .inr (.inl ⟨_, _, _, hp, hd, hf, hmin, hmax, by simp, rfl⟩)
  | raises => exact .inl ⟨rfl, rfl, rfl⟩
  | refuses => exact .inl ⟨rfl, rfl, rfl⟩

/-! ## What a command reads and what it leaves alone

The access summary R22 as one lemma: overwriting what a command neither reads nor writes commutes with the command. The
three independence statements overwrite the arrays, the cipher state and the configuration. -/

/-- `u` overwrites fields of the state that answering and raising a fault neither read nor write. -/
structure Overwrites (u : State → State) : Prop where
  fault : ∀ s, (u s).fault = s.fault
  respond : ∀ s r, (u s).respond r = u (s.respond r)
  raise : ∀ s f, (u s).raise f = u (s.raise f)

/-- What the access summary lets a command read is the same in both states (R22); the arrays are read on a keyed block
only (R21, R96). -/
def SameReads (i : Instr) (s s' : State) : Prop :=
  match i with
  | .init _ => s'.cfg.pInit = s.cfg.pInit ∧ s'.cfg.sInit = s.cfg.sInit
  | .encipher _ _ | .decipher _ _ => s'.keyed = s.keyed ∧ (s.keyed = true → s'.schedule = s.schedule)
  | .xformEnc _ | .xformDec _ =>
      s'.keyed = s.keyed ∧ (s.keyed = true → s'.schedule = s.schedule) ∧ s'.cfg.blockOrder = s.cfg.blockOrder
  | .encode _ _ _ _ _ => s'.cfg.lenMask = s.cfg.lenMask ∧ s'.cfg.calc = s.cfg.calc
  | .decode _ _ _ _ _ => s'.cfg.lenMask = s.cfg.lenMask
  | .status => s'.keyed = s.keyed

/-- The command is an INIT that will write the arrays (R22). -/
def Installs (i : Instr) (s : State) : Prop := ∃ key, i = .init key ∧ s.fault = 0 ∧ keyLegal key = true

namespace Overwrites

variable {u : State → State} {s t : State}

theorem deliver (hu : Overwrites u) (s : State) (r : Results) : (u s).deliver r = u (s.deliver r) :=
  hu.respond s (.ok r)

theorem unlessFaulted_comm (hu : Overwrites u) {run : State → State} (hr : s.fault = 0 → run (u s) = u (run s))
    (h : unlessFaulted s run = .next t) : unlessFaulted (u s) run = .next (u t) := by
  obtain ⟨hf, rfl⟩ | ⟨hf, rfl⟩ := unlessFaulted_cases h
  · rw [unlessFaulted_clear ((hu.fault s).trans hf), hr hf]
  · have hf' : (u s).fault ≠ 0 := by rwa [hu.fault]
    rw [unlessFaulted_latched hf', State.refuseLatched, hu.respond, hu.fault, State.refuseLatched]

theorem whenKeyed_comm (hu : Overwrites u) {run : State → State} (hk : (u s).keyed = s.keyed)
    (hr : s.keyed = true → run (u s) = u (run s)) : whenKeyed (u s) run = u (whenKeyed s run) := by
  by_cases h : s.keyed = true
  · rw [whenKeyed_keyed h, whenKeyed_keyed (hk.trans h), hr h]
  · rw [Bool.not_eq_true] at h
    rw [whenKeyed_unkeyed h, whenKeyed_unkeyed (hk.trans h), hu.raise]

theorem runBlock_comm (hu : Overwrites u) (hk : (u s).keyed = s.keyed)
    (hs : s.keyed = true → (u s).schedule = s.schedule) {f : Schedule → W32 × W32 → W32 × W32} {left right : W32}
    (h : runBlock f left right s = .next t) : runBlock f left right (u s) = .next (u t) :=
  hu.unlessFaulted_comm (fun _ => hu.whenKeyed_comm hk fun hkeyed => by simp [hs hkeyed, hu.deliver]) h

theorem runXform_comm (hu : Overwrites u) (hk : (u s).keyed = s.keyed)
    (hs : s.keyed = true → (u s).schedule = s.schedule) (ho : (u s).cfg.blockOrder = s.cfg.blockOrder)
    {f : Schedule → W32 × W32 → W32 × W32} {buf : Bytes}
    (h : runXform f buf s = .next t) : runXform f buf (u s) = .next (u t) :=
  hu.unlessFaulted_comm (fun _ => hu.whenKeyed_comm hk fun hkeyed => by
    rw [hs hkeyed, ho]
    split
    · exact hu.deliver _ _
    · exact hu.raise _ _) h

/-- R22: overwriting what a command does not read, and does not write, commutes with it. -/
theorem exec_comm (hu : Overwrites u) {i : Instr} (hs : SameReads i s (u s))
    (hw : Installs i s → ∀ k, (u s).install k = u (s.install k)) (h : exec i s = .next t) :
    exec i (u s) = .next (u t) := by
  cases i with
  | init key =>
    obtain ⟨hp, hs⟩ := hs
    simp only [exec, execInit] at h ⊢
    refine hu.unlessFaulted_comm (fun hf => ?_) h
    split
    · next hk =>
      rw [keySchedule_cfg hp hs, hw ⟨key, rfl, hf, hk⟩]
      exact hu.deliver _ _
    · exact hu.raise _ _
  | encipher left right =>
    obtain ⟨hk, hs⟩ := hs
    exact hu.runBlock_comm hk hs h
  | decipher left right =>
    obtain ⟨hk, hs⟩ := hs
    exact hu.runBlock_comm hk hs h
  | xformEnc buf =>
    obtain ⟨hk, hs, ho⟩ := hs
    exact hu.runXform_comm hk hs ho h
  | xformDec buf =>
    obtain ⟨hk, hs, ho⟩ := hs
    exact hu.runXform_comm hk hs ho h
  | encode id encrypted payload securityByte checksumByte =>
    obtain ⟨hm, hc⟩ := hs
    simp only [exec, execEncode] at h ⊢
    refine hu.unlessFaulted_comm (fun _ => ?_) h
    rw [hm, hc]
    split
    · exact hu.deliver _ _
    · exact hu.raise _ _
  | decode lengthWord idWord count checksum payload =>
    have hm : (u s).cfg.lenMask = s.cfg.lenMask := hs
    simp only [exec, execDecode] at h ⊢
    refine hu.unlessFaulted_comm (fun _ => ?_) h
    rw [hm]
    split
    · exact hu.deliver _ _
    · exact hu.raise _ _
  | status =>
    have hk : (u s).keyed = s.keyed := hs
    obtain rfl := Host.Outcome.next.inj h
    simp only [exec, execStatus, hk, hu.fault, hu.deliver]

end Overwrites

/-! ### The arrays (R21) -/

/-- The state with other contents of the two arrays. -/
def State.withArrays (P : Vector W32 18) (S : Vector (Vector W32 256) 4) (s : State) : State :=
  { s with P := P, S := S }

theorem overwrites_withArrays (P : Vector W32 18) (S : Vector (Vector W32 256) 4) :
    Overwrites (State.withArrays P S) :=
  ⟨fun _ => rfl, fun _ _ => rfl, fun _ _ => rfl⟩

theorem State.sameButSchedule_withArrays (P : Vector W32 18) (S : Vector (Vector W32 256) 4) (s : State) :
    s.sameButSchedule (s.withArrays P S) :=
  ⟨rfl, rfl, rfl, rfl, rfl, rfl⟩

/-- Two states that differ in the arrays only: the second is the first with the second's arrays. -/
theorem State.sameButSchedule.eq_withArrays {s s' : State} (h : s.sameButSchedule s') :
    s' = s.withArrays s'.P s'.S := by
  cases s; cases s'
  obtain ⟨rfl, rfl, rfl, rfl, rfl, rfl⟩ := h
  rfl

/-- On an unkeyed block no command reads the arrays (R96). -/
theorem sameReads_withArrays {s : State} (hk : s.keyed = false) (i : Instr) (P : Vector W32 18)
    (S : Vector (Vector W32 256) 4) : SameReads i s (s.withArrays P S) := by
  have hs : s.keyed = true → (s.withArrays P S).schedule = s.schedule := fun h => by simp [hk] at h
  cases i with
  | init => exact ⟨rfl, rfl⟩
  | encipher => exact ⟨rfl, hs⟩
  | decipher => exact ⟨rfl, hs⟩
  | xformEnc => exact ⟨rfl, hs, rfl⟩
  | xformDec => exact ⟨rfl, hs, rfl⟩
  | encode => exact ⟨rfl, rfl⟩
  | decode => rfl
  | status => rfl

theorem unlessFaulted_next (s : State) (run : State → State) : ∃ t, unlessFaulted s run = .next t := by
  by_cases hf : s.fault = 0
  · exact ⟨_, unlessFaulted_clear hf run⟩
  · exact ⟨_, unlessFaulted_latched hf run⟩

/-- Every command is answered with a next state (R237): each but STATUS goes through the latched-fault check. -/
theorem exec_next (i : Instr) (s : State) : ∃ t, exec i s = .next t := by
  cases i with
  | status => exact ⟨_, rfl⟩
  | _ =>
    simp only [exec, execInit, execEncipher, execDecipher, runBlock, execXformEnc, execXformDec, runXform, execEncode,
      execDecode]
    exact unlessFaulted_next s _

/-- Only an installation writes `keyed` (R13). -/
theorem exec_keyed {i : Instr} {s t : State} (hi : ¬ Installs i s) (h : exec i s = .next t) : t.keyed = s.keyed := by
  obtain ⟨r, rfl, -⟩ | ⟨key, hkey, hf, hk, -⟩ | ⟨f, -, rfl, -⟩ | ⟨-, -, rfl⟩ := exec_cases h
  · rfl
  · exact absurd ⟨key, hkey, hf, hk⟩ hi
  · rfl
  · rfl

/-- Settles O25: an installation overwrites whatever the arrays held, and any other command on an unkeyed block leaves
them, and `keyed`, as they were. -/
theorem unkeyedArraysAreUnobservable : Obligations.UnkeyedArraysAreUnobservable := by
  unfold Obligations.UnkeyedArraysAreUnobservable
  intro i s s' hk hs
  rw [hs.eq_withArrays]
  by_cases hi : Installs i s
  · obtain ⟨key, rfl, hf, hkey⟩ := hi
    have hf' : (s.withArrays s'.P s'.S).fault = 0 := hf
    exact ⟨_, _, execInit_legal hf hkey, execInit_legal hf' hkey, ⟨rfl, rfl, rfl, rfl, rfl, rfl⟩, fun _ => rfl⟩
  · obtain ⟨t, ht⟩ := exec_next i s
    have ht' := (overwrites_withArrays s'.P s'.S).exec_comm (sameReads_withArrays hk i _ _) (absurd · hi) ht
    refine ⟨t, _, ht, ht', State.sameButSchedule_withArrays _ _ t, fun h => ?_⟩
    simp [exec_keyed hi ht, hk] at h

/-! ### The cipher state (R16) -/

/-- The state with another cipher state: `P`, `S` and `keyed`. -/
def State.withCipher (P : Vector W32 18) (S : Vector (Vector W32 256) 4) (keyed : Bool) (s : State) : State :=
  { s with P := P, S := S, keyed := keyed }

theorem overwrites_withCipher (P : Vector W32 18) (S : Vector (Vector W32 256) 4) (keyed : Bool) :
    Overwrites (State.withCipher P S keyed) :=
  ⟨fun _ => rfl, fun _ _ => rfl, fun _ _ => rfl⟩

/-- Settles O48: overwriting the cipher state commutes with both commands of the framer. -/
theorem framerIgnoresCipher : Obligations.FramerIgnoresCipher := by
  unfold Obligations.FramerIgnoresCipher
  intro i s t hi h P S keyed
  have hu := overwrites_withCipher P S keyed
  obtain ⟨id, encrypted, payload, securityByte, checksumByte, rfl⟩ |
    ⟨lengthWord, idWord, count, checksum, payload, rfl⟩ := hi
  · exact hu.exec_comm ⟨rfl, rfl⟩ (fun ⟨_, hkey, _⟩ => nomatch hkey) h
  · exact hu.exec_comm (i := .decode ..) rfl (fun ⟨_, hkey, _⟩ => nomatch hkey) h

/-! ### The configuration (R15, R22) -/

/-- The state under another configuration. -/
def State.withCfg (cfg : Cfg) (s : State) : State := { s with cfg := cfg }

theorem overwrites_withCfg (cfg : Cfg) : Overwrites (State.withCfg cfg) :=
  ⟨fun _ => rfl, fun _ _ => rfl, fun _ _ => rfl⟩

/-- Settles O50: overwriting the fields of the configuration that a command does not read commutes with it. -/
theorem commandsReadTheirConfiguration : Obligations.CommandsReadTheirConfiguration := by
  unfold Obligations.CommandsReadTheirConfiguration
  intro i s t cfg h hinit hxform hencode hdecode
  refine (overwrites_withCfg cfg).exec_comm ?_ (fun _ _ => rfl) h
  cases i with
  | init key => exact hinit key rfl
  | encipher => exact ⟨rfl, fun _ => rfl⟩
  | decipher => exact ⟨rfl, fun _ => rfl⟩
  | xformEnc buf => exact ⟨rfl, fun _ => rfl, hxform buf (.inl rfl)⟩
  | xformDec buf => exact ⟨rfl, fun _ => rfl, hxform buf (.inr rfl)⟩
  | encode => exact hencode _ _ _ _ _ rfl
  | decode => exact hdecode _ _ _ _ _ rfl
  | status => rfl

/-! ## Reset values, waiting, and the status word -/

@[simp] theorem State.reset_keyed : State.reset.keyed = false := rfl
@[simp] theorem State.reset_fault : State.reset.fault = 0 := rfl

/-- Settles O1: the word of the two reset values is 0000. -/
theorem resetLeavesUnkeyedUnfaulted : Obligations.ResetLeavesUnkeyedUnfaulted := by
  unfold Obligations.ResetLeavesUnkeyedUnfaulted
  rw [State.reset_keyed, State.reset_fault]
  decide

/-- Settles O6: the step with an empty port. -/
theorem unpromptedBlockStays : Obligations.UnpromptedBlockStays := by
  unfold Obligations.UnpromptedBlockStays
  exact fun _ => step_idle

/-- The status word bit by bit: bits 7:0 are `fault`, bit 8 is `keyed`, all others are 0 (R19). -/
theorem statusWord_getLsbD (keyed : Bool) (fault : Byte) (j : Nat) :
    (statusWord keyed fault).getLsbD j = if j < 8 then fault.getLsbD j else decide (j = 8) && keyed := by
  rw [statusWord, BitVec.getLsbD_append, BitVec.getLsbD_append]
  split
  · rfl
  · by_cases h : j = 8
    · simp [h]
    · have h1 : ¬ j - 8 < 1 := by omega
      simp [h, h1]

/-- Settles O17: STATUS delivers the status word, whose bits are those of `fault` and `keyed`. -/
theorem statusReadsFaultAndKeyed : Obligations.StatusReadsFaultAndKeyed := by
  unfold Obligations.StatusReadsFaultAndKeyed
  intro s
  refine ⟨statusWord s.keyed s.fault, rfl, fun j hj => ?_, ?_, fun j hj => ?_⟩
  · rw [statusWord_getLsbD, if_pos hj]
  · rw [statusWord_getLsbD, if_neg (by decide)]
    rfl
  · have h8 : ¬ j < 8 := by omega
    have hne : j ≠ 8 := by omega
    simp [statusWord_getLsbD, h8, hne]

end Sys2Proof.Machine

/-! ## Taking, repeating and transforming: the rules of 20_memory.md -/

namespace Sys2Proof.Machine

/-- Settles O5: the law of a step that takes a command of the map. -/
theorem stepRunsDecodedCommand : Obligations.StepRunsDecodedCommand := by
  unfold Obligations.StepRunsDecodedCommand
  exact fun _ _ _ _ => step_instr

/-! ### A command issued twice (R41) -/

/-- The port's last response is read by no command, and each command answers over it. -/
theorem exec_respond (i : Instr) (s : State) (r : Response) : exec i (s.respond r) = exec i s := by
  cases i <;> rfl

/-- With a fault latched every command but STATUS is refused (R196). -/
theorem exec_latched {i : Instr} {s : State} (hf : s.fault ≠ 0) (hi : i ≠ .status) :
    exec i s = .next s.refuseLatched := by
  obtain ⟨t, h⟩ := exec_next i s
  obtain ⟨_, -, hclear | hstatus⟩ | ⟨_, -, hclear, -⟩ | ⟨_, hclear, -⟩ | ⟨-, -, rfl⟩ := exec_cases h
  · exact absurd hclear hf
  · exact absurd hstatus hi
  · exact absurd hclear hf
  · exact absurd hclear hf
  · exact h

/-- The response to a fault just raised is already the refusal with the latched code. -/
@[simp] theorem State.raise_refuseLatched (s : State) (f : FaultName) : (s.raise f).refuseLatched = s.raise f := rfl

/-- STATUS raises no fault (R19). -/
theorem exec_status_ne_raise (s : State) (f : FaultName) : exec .status s ≠ .next (s.raise f) := fun h => by
  have hr : (State.deliver s _).response = (s.raise f).response := congrArg State.response (Host.Outcome.next.inj h)
  simp at hr

/-- Settles O16: an answer or a refusal changes the response only, which the second run does not read; a second
installation overwrites the first; and after a fault the second command is refused with the code just answered. -/
theorem commandTwiceIsCommandOnce : Obligations.CommandTwiceIsCommandOnce := by
  unfold Obligations.CommandTwiceIsCommandOnce
  intro i s t h
  obtain ⟨r, rfl, -⟩ | ⟨key, rfl, hf, hk, rfl⟩ | ⟨f, -, rfl, -⟩ | ⟨-, -, rfl⟩ := exec_cases h
  · exact (exec_respond i s _).trans h
  · have hf' : ((s.install (keySchedule s.cfg key)).deliver .none).fault = 0 := hf
    exact (execInit_legal hf' hk).trans (by rw [State.install_twice, State.deliver_cfg, State.install_cfg])
  · have hi : i ≠ .status := by
      rintro rfl
      exact exec_status_ne_raise s f h
    rw [exec_latched f.code_ne_zero hi, State.raise_refuseLatched]
  · exact (exec_respond i s _).trans h

/-! ### The bytes of a half (R33) -/

/-- Settles O33: `be32` as a number, of the four bytes as they stand and of the four reversed; and each half is written
back as the bytes it was read from. -/
theorem halvesFollowBlockOrder : Obligations.HalvesFollowBlockOrder := by
  unfold Obligations.HalvesFollowBlockOrder
  refine ⟨fun b0 b1 b2 b3 => ⟨?_, ?_⟩, fun order b0 b1 b2 b3 b4 b5 b6 b7 => ?_⟩
  · rw [halfOfBytes, be32_toNat]
    omega
  · rw [halfOfBytes, le32_eq_be32, be32_toNat]
    omega
  · simp [unhalves]

end Sys2Proof.Machine

/-! ## Encoding: raw commands, status byte, key chunks and frames -/

namespace Sys2Proof.Machine

open Sys2Proof

/-! ### Raw commands (R55, R56, R57) -/

/-- Each instruction is read back from its own opcode and lanes. -/
@[simp] theorem decode_encode (i : Instr) : decode (encode i) = .instr i := by
  cases i <;> rfl

theorem encode_wellFormed (i : Instr) : (encode i).wellFormed = true := by
  cases i with
  | init => exact Laws.EncodingWellFormed.init ..
  | encipher => exact Laws.EncodingWellFormed.encipher ..
  | decipher => exact Laws.EncodingWellFormed.decipher ..
  | xformEnc => exact Laws.EncodingWellFormed.xformEnc ..
  | xformDec => exact Laws.EncodingWellFormed.xformDec ..
  | encode => exact Laws.EncodingWellFormed.encode ..
  | decode => exact Laws.EncodingWellFormed.decode ..
  | status => exact Laws.EncodingWellFormed.status

theorem wellFormed_iff (c : Command) :
    c.wellFormed = true ↔ c.opcodeListed = true ∧ c.operands = c.namedLanes := by
  simp [Command.wellFormed, Command.otherLanesIdle]

/-- The eight opcodes of the map, as bytes. -/
theorem opcodeListed_iff (c : Command) :
    c.opcodeListed = true ↔
      c.opcode = 0x01 ∨ c.opcode = 0x02 ∨ c.opcode = 0x03 ∨ c.opcode = 0x04 ∨ c.opcode = 0x05 ∨
        c.opcode = 0x08 ∨ c.opcode = 0x09 ∨ c.opcode = 0x0F := by
  simp [Command.opcodeListed, ← BitVec.toNat_inj]

/-- A command of the map decodes, and encoding the instruction keeps the opcode and the lanes R57 gives it. -/
theorem exists_decode_of_opcodeListed {c : Command} (h : c.opcodeListed = true) :
    ∃ i, decode c = .instr i ∧ encode i = ⟨c.opcode, c.namedLanes⟩ := by
  obtain ⟨opcode, operands⟩ := c
  obtain rfl | rfl | rfl | rfl | rfl | rfl | rfl | rfl := (opcodeListed_iff _).mp h <;> exact ⟨_, rfl, rfl⟩

/-- Settles O9: an instruction decodes from its encoding; and a well-formed command holds nothing but its opcode and the
lanes of that opcode, which is what the encoding keeps. -/
theorem decodeEncodeAgree : Obligations.DecodeEncodeAgree := by
  unfold Obligations.DecodeEncodeAgree
  refine ⟨fun i => ⟨decode_encode i, encode_wellFormed i⟩, fun c hc => ?_⟩
  obtain ⟨hlisted, hlanes⟩ := (wellFormed_iff c).mp hc
  obtain ⟨i, hdecode, hencode⟩ := exists_decode_of_opcodeListed hlisted
  exact ⟨i, hdecode, by rw [hencode, ← hlanes]⟩

/-- Settles O10: the fourteen words, decoded. -/
theorem commandWordsDecode : Obligations.CommandWordsDecode := by
  unfold Obligations.CommandWordsDecode
  decide

/-! ### The status byte (R58) -/

@[simp] theorem responseStatus_ok (r : Results) : responseStatus (.ok r) = 0 := rfl
@[simp] theorem responseStatus_fault (code : Byte) : responseStatus (.fault code) = code := rfl

/-- A step that takes a command leaves results, or the code that is then latched. -/
theorem step_command_response {s t : State} {c : Command} {rest : List PortEvent}
    (hp : s.port = .command c :: rest) (h : step s = .next t) :
    (∃ r, t.response = some (.ok r)) ∨ (t.fault ≠ 0 ∧ t.response = some (.fault t.fault)) := by
  cases stepEffect_of_step h with
  | waits hp' => simp [hp] at hp'
  | resets hp' => simp [hp] at hp'
  | answers _ r => exact .inl ⟨r, rfl⟩
  | installs => exact .inl ⟨.none, rfl⟩
  | raises _ _ _ => exact .inr ⟨FaultName.code_ne_zero _, rfl⟩
  | refuses _ hf => exact .inr ⟨hf, rfl⟩

/-- Settles O14: the status byte of results is 0, that of a fault is the latched code, which is not 0. -/
theorem statusByteTellsFault : Obligations.StatusByteTellsFault := by
  unfold Obligations.StatusByteTellsFault
  intro s t c rest hp h
  obtain ⟨r, hr⟩ | ⟨hf, hr⟩ := step_command_response hp h
  · exact ⟨_, hr, by simp⟩
  · exact ⟨_, hr, by simpa using hf⟩

/-! ### The key chunks (R61) -/

/-- The index of a key byte is inside a nonempty key. -/
theorem keyByteAt_eq_getElem {key : Bytes} (h : 0 < key.length) (i j : Nat) :
    keyByteAt key i j = key[(4 * i + j) % key.length]'(Nat.mod_lt _ h) :=
  List.getD_eq_getElem key 0 (Nat.mod_lt _ h)

/-- Settles O18: the chunk is the big-endian word of four key bytes, each inside the key. -/
theorem keyChunkIsCyclicBigEndian : Obligations.KeyChunkIsCyclicBigEndian := by
  unfold Obligations.KeyChunkIsCyclicBigEndian
  intro key i h
  simp only [chunk, be32_toNat, keyByteAt_eq_getElem h, Nat.add_zero]
  ring

/-! ### The length word and the frame (R50, R51, R52) -/

/-- How many low bits of the length word the mask keeps. -/
def maskBits : LenMask → Nat
  | .low15 => 15
  | .low11 => 11

theorem maskBits_le (m : LenMask) : maskBits m ≤ 15 := by
  cases m <;> decide

theorem maskWord_toNat (m : LenMask) : (maskWord m).toNat = 2 ^ maskBits m - 1 := by
  cases m <;> rfl

/-- A payload fits the mask when its length has no more bits than the mask. -/
theorem le_maskWord_iff (m : LenMask) (n : Nat) : n ≤ (maskWord m).toNat ↔ n < 2 ^ maskBits m := by
  rw [maskWord_toNat, Nat.le_sub_one_iff_lt (Nat.two_pow_pos _)]

theorem lengthField_eq_mod (m : LenMask) (w : W16) : lengthField m w = w.toNat % 2 ^ maskBits m := by
  rw [lengthField, BitVec.toNat_and, maskWord_toNat, Nat.and_two_pow_sub_one_eq_mod]

/-- Bit 15 of a length word is outside either mask (R51). -/
theorem lengthField_makeLengthWord {m : LenMask} {n : Nat} (h : n ≤ (maskWord m).toNat) (encrypted : Bool) :
    lengthField m (makeLengthWord n encrypted) = n := by
  rw [le_maskWord_iff] at h
  have hflag : (if encrypted then 0x8000 else 0 : W16).toNat % 2 ^ maskBits m = 0 := by
    cases m <;> cases encrypted <;> rfl
  have hn : BitVec.toNat (BitVec.ofNat 16 n) % 2 ^ maskBits m = n := by
    rw [BitVec.toNat_ofNat, Nat.mod_mod_of_dvd _ (Nat.pow_dvd_pow 2 (by have := maskBits_le m; omega)),
      Nat.mod_eq_of_lt h]
  rw [lengthField_eq_mod, makeLengthWord, BitVec.toNat_or, Nat.or_mod_two_pow, hflag, hn, Nat.or_zero]

/-- And the length leaves bit 15 clear. -/
theorem encryptedFlag_makeLengthWord {m : LenMask} {n : Nat} (h : n ≤ (maskWord m).toNat) (encrypted : Bool) :
    encryptedFlag (makeLengthWord n encrypted) = encrypted := by
  have hn : n < 2 ^ 15 :=
    ((le_maskWord_iff m n).mp h).trans_le (Nat.pow_le_pow_right (by decide) (maskBits_le m))
  rw [encryptedFlag, makeLengthWord, BitVec.getLsbD_or, BitVec.getLsbD_ofNat, Nat.testBit_lt_two_pow hn]
  cases encrypted <;> rfl

/-- The two bytes of a word, low byte first, make the word again. -/
@[simp] theorem le16_bytes (w : W16) : le16 (w.extractLsb' 0 8) (w.extractLsb' 8 8) = w := by
  apply BitVec.eq_of_toNat_eq
  have := w.isLt
  simp only [le16_toNat, BitVec.extractLsb'_toNat, Nat.shiftRight_eq_div_pow]
  omega

section Frame

variable (calculate : Bytes → Byte) (id : W16) (encrypted : Bool) (payload : Bytes) (securityByte checksumByte : Byte)

/-- The frame's bytes: the placeholder is gone, the checksum of the frame with it stands in byte 5 (R124). -/
theorem buildFrame_eq :
    buildFrame calculate id encrypted payload securityByte checksumByte =
      bytesLe16 (makeLengthWord payload.length encrypted) ++ bytesLe16 id ++
        [securityByte, calculate (frameWithPlaceholder id encrypted payload securityByte checksumByte)] ++
        payload := rfl

@[simp] theorem buildFrame_length :
    (buildFrame calculate id encrypted payload securityByte checksumByte).length = 6 + payload.length := by
  simp [buildFrame_eq, bytesLe16]
  omega

/-- The first two bytes of the frame are its length word. -/
@[simp] theorem le16_buildFrame :
    le16 ((buildFrame calculate id encrypted payload securityByte checksumByte).getD 0 0)
      ((buildFrame calculate id encrypted payload securityByte checksumByte).getD 1 0) =
      makeLengthWord payload.length encrypted := by
  simp [buildFrame_eq, bytesLe16]

/-- FrameSplit reads back every field of a built frame (R63). -/
theorem frameSplit_buildFrame :
    frameSplit (buildFrame calculate id encrypted payload securityByte checksumByte) =
      some ⟨makeLengthWord payload.length encrypted, id, securityByte,
        calculate (frameWithPlaceholder id encrypted payload securityByte checksumByte), payload⟩ := by
  simp [buildFrame_eq, bytesLe16, frameSplit]

end Frame

/-- ENCODE without a fault and with a payload that fits the mask (R121). -/
theorem execEncode_fits {s : State} (hf : s.fault = 0) {payload : Bytes}
    (hp : payload.length ≤ (maskWord s.cfg.lenMask).toNat) (id : W16) (encrypted : Bool)
    (securityByte checksumByte : Byte) :
    execEncode id encrypted payload securityByte checksumByte s =
      .next (s.deliver (.frame (buildFrame s.cfg.calc id encrypted payload securityByte checksumByte))) := by
  simp [execEncode, unlessFaulted_clear hf, hp]

/-- A frame is answered for a payload that fits the mask only, and it is the built frame. -/
theorem execEncode_frame {s t : State} {id : W16} {encrypted : Bool} {payload : Bytes}
    {securityByte checksumByte : Byte} {frame : Bytes}
    (h : execEncode id encrypted payload securityByte checksumByte s = .next t)
    (hr : t.response = some (.ok (.frame frame))) :
    payload.length ≤ (maskWord s.cfg.lenMask).toNat ∧
      frame = buildFrame s.cfg.calc id encrypted payload securityByte checksumByte := by
  obtain ⟨-, rfl⟩ | ⟨-, rfl⟩ := unlessFaulted_cases h
  · split at hr
    · next hp =>
      cases hr
      exact ⟨hp, rfl⟩
    · cases hr
  · cases hr

/-- Settles O41: the first two bytes are the length word, whose masked value is the payload's length. -/
theorem frameLengthFromFirstTwoBytes : Obligations.FrameLengthFromFirstTwoBytes := by
  unfold Obligations.FrameLengthFromFirstTwoBytes
  intro s t id encrypted payload securityByte checksumByte frame h hr
  obtain ⟨hp, rfl⟩ := execEncode_frame h hr
  rw [wireFrameLength, le16_buildFrame, lengthField_makeLengthWord hp, buildFrame_length]

/-- DECODE without a fault, when the payload has the length the length word says (R126). -/
theorem execDecode_lengthMatches {s : State} (hf : s.fault = 0) {lengthWord : W16} {payload : Bytes}
    (hl : payload.length = lengthField s.cfg.lenMask lengthWord) (idWord : W16) (count checksum : Byte) :
    execDecode lengthWord idWord count checksum payload s =
      .next (s.deliver (.packet idWord (encryptedFlag lengthWord) payload)) := by
  simp [execDecode, unlessFaulted_clear hf, hl]

/-! ### `Dec` undoes `Enc`, and so the transform (R101, R105) -/

/-- The rounds of `Dec` in reverse order, on the exchanged pair, undo the rounds of `Enc`. -/
theorem foldl_decRound_foldl_encRound (k : Schedule) (ns : List (Fin 18)) (lr : W32 × W32) :
    ns.reverse.foldl (decRound k) (ns.foldl (encRound k) lr).swap = lr.swap := by
  induction ns generalizing lr with
  | nil => rfl
  | cons n ns ih => rw [List.foldl_cons, List.reverse_cons, List.foldl_append, ih, List.foldl_cons, List.foldl_nil,
      decRound_encRound]

theorem dec_enc (k : Schedule) (lr : W32 × W32) : dec k (enc k lr) = lr := by
  have hrounds := foldl_decRound_foldl_encRound k rounds (lr.1 ^^^ k.P.get 0, lr.2)
  simp only [Prod.swap] at hrounds
  simp [dec, enc, hrounds]

/-- Slices written by a transform are read back by the next one. -/
theorem xform_unhalves_append (order : BlockOrder) (f : W32 × W32 → W32 × W32) (lr : W32 × W32) (rest : Bytes) :
    xform order f (unhalves order lr ++ rest) = unhalves order (f lr) ++ xform order f rest := by
  cases order <;> simp [unhalves, bytesOfHalf, bytesBe32, bytesLe32, xform_slice, halfOfBytes, le32_eq_be32]

theorem xform_length (order : BlockOrder) (f : W32 × W32 → W32 × W32) {buf : Bytes} (h : buf.length % 8 = 0) :
    (xform order f buf).length = buf.length := by
  induction buf, h using slices_induction with
  | nil => simp
  | slice b0 b1 b2 b3 b4 b5 b6 b7 rest hr ih =>
    simp [xform_slice, ih]
    omega

/-- The transform with an inverse block function gives whole blocks back. -/
theorem xform_xform {f g : W32 × W32 → W32 × W32} (hgf : ∀ lr, g (f lr) = lr) (order : BlockOrder) {buf : Bytes}
    (h : buf.length % 8 = 0) : xform order g (xform order f buf) = buf := by
  induction buf, h using slices_induction with
  | nil => simp
  | slice b0 b1 b2 b3 b4 b5 b6 b7 rest hr ih =>
    rw [xform_slice, xform_unhalves_append, hgf, ih]
    simp [unhalves]

/-! ### SEND_ENC and RECV (R65, R130) -/

/-- The results a first command delivered are not read by the second. -/
@[simp] theorem exec_deliver (i : Instr) (s : State) (r : Results) : exec i (s.deliver r) = exec i s :=
  exec_respond i s (.ok r)

/-- SEND_ENC answers the frame of the enciphered payload. -/
theorem runSendEnc_keyed {s : State} (hf : s.fault = 0) (hk : s.keyed = true) {payload : Bytes}
    (hb : payload.length % 8 = 0) (hp : payload.length ≤ (maskWord s.cfg.lenMask).toNat) (id : W16) (sec ck : Byte) :
    runSendEnc id payload sec ck s =
      .next (s.deliver (.frame
        (buildFrame s.cfg.calc id true (xform s.cfg.blockOrder (enc s.schedule) payload) sec ck))) := by
  have hxform : exec (.xformEnc payload) s = _ := runXform_keyed hf hk enc hb
  rw [← xform_length s.cfg.blockOrder (enc s.schedule) hb] at hp
  simp only [runSendEnc, hxform, State.deliver_response, exec_deliver]
  exact execEncode_fits hf hp id true sec ck

/-- RECV of an encrypted frame answers its payload deciphered. -/
theorem runRecv_keyed {s : State} (hf : s.fault = 0) (hk : s.keyed = true) {frame : Bytes} {fields : FrameFields}
    (hs : frameSplit frame = some fields) (he : encryptedFlag fields.lengthWord = true)
    (hl : fields.payload.length = lengthField s.cfg.lenMask fields.lengthWord) (hb : fields.payload.length % 8 = 0) :
    runRecv frame s =
      .next (s.deliver (.out (xform s.cfg.blockOrder (dec s.schedule) fields.payload))) := by
  have hdecode : exec (decodeOfFields fields) s = .next (s.deliver (.packet fields.idWord true fields.payload)) :=
    he ▸ execDecode_lengthMatches hf hl fields.idWord fields.count fields.checksum
  simp only [runRecv, hs, hdecode, State.deliver_response, exec_deliver]
  exact runXform_keyed hf hk dec hb

/-- Settles O49: RECV splits the frame into the fields SEND_ENC built it from, and the transform with `Dec` undoes that
with `Enc`. -/
theorem sendEncThenRecvReturnsPayload : Obligations.SendEncThenRecvReturnsPayload := by
  unfold Obligations.SendEncThenRecvReturnsPayload
  intro s id payload sec ck hf hk hb hp
  have hlen := xform_length s.cfg.blockOrder (enc s.schedule) hb
  have hp' := hlen.trans_le hp
  refine ⟨_, _, runSendEnc_keyed hf hk hb hp id sec ck, rfl, by rw [buildFrame_length, hlen], ?_⟩
  rw [runRecv_keyed (s := s.deliver _) hf hk (frameSplit_buildFrame ..) (encryptedFlag_makeLengthWord hp' true)
    (lengthField_makeLengthWord hp' true).symm (by rw [hlen, hb])]
  simp only [State.deliver_schedule, State.deliver_cfg, xform_xform (dec_enc s.schedule) _ hb]
  rfl

end Sys2Proof.Machine

/-! ## The key schedule and INIT: the rules of 40_cipher_keyschedule.md -/

namespace Sys2Proof.Machine

/-! ### INIT (R80, R82, R85) -/

/-- Settles O21: INIT with a legal key is an installation, answered. -/
theorem initInstallsSchedule : Obligations.InitInstallsSchedule := by
  unfold Obligations.InitInstallsSchedule
  intro key s hf hmin hmax
  exact execInit_legal hf ((keyLegal_iff key).2 ⟨hmin, hmax⟩)

/-- Settles O23: the second installation reads the configuration alone, which the first has left as it was, and
overwrites all the first has written. -/
theorem secondInitDiscardsFirstKey : Obligations.SecondInitDiscardsFirstKey := by
  unfold Obligations.SecondInitDiscardsFirstKey
  intro key key' s t hf hmin hmax h hmin' hmax'
  have hk' := (keyLegal_iff key').2 ⟨hmin', hmax'⟩
  have hfirst := execInit_legal hf ((keyLegal_iff key).2 ⟨hmin, hmax⟩)
  obtain rfl := Host.Outcome.next.inj (hfirst.symm.trans h)
  have hf' : ((s.install (keySchedule s.cfg key)).deliver .none).fault = 0 := hf
  have hsecond := execInit_legal hf' hk'
  rw [State.install_twice, State.deliver_cfg, State.install_cfg] at hsecond
  exact hsecond.trans (execInit_legal hf hk').symm

/-! ### The schedule reads the chunks of the key alone (R83, R86) -/

/-- Keys with the same 18 chunks give the same arrays to start from. -/
theorem keyedConstants_congr {key key' : Bytes} (h : ∀ i, i < 18 → chunk key i = chunk key' i) (cfg : Cfg) :
    keyedConstants cfg key = keyedConstants cfg key' := by
  have hP : ∀ i : Fin 18, chunk key i.val = chunk key' i.val := fun i => h i.val i.isLt
  simp only [keyedConstants, hP]

/-- An entry of a list repeated twice is the entry of the list at the index reduced by its length. -/
theorem getElem_append_self {α : Type} (l : List α) {n : Nat} (h : n < (l ++ l).length)
    (h' : n % l.length < l.length) : (l ++ l)[n] = l[n % l.length] := by
  rw [List.getElem_append]
  split
  · next hlt => simp only [Nat.mod_eq_of_lt hlt]
  · next hge =>
    have hlt : n - l.length < l.length := by
      rw [List.length_append] at h
      omega
    simp only [Nat.mod_eq_sub_mod (Nat.le_of_not_lt hge), Nat.mod_eq_of_lt hlt]

/-- A key read cyclically is the key repeated twice, read cyclically. -/
theorem keyByteAt_append_self {key : Bytes} (h : key ≠ []) (i j : Nat) :
    keyByteAt (key ++ key) i j = keyByteAt key i j := by
  have hpos : 0 < key.length := List.length_pos_iff.mpr h
  have hpos' : 0 < (key ++ key).length := by simpa using hpos
  have hdvd : key.length ∣ (key ++ key).length := ⟨2, by rw [List.length_append]; omega⟩
  rw [keyByteAt_eq_getElem hpos', keyByteAt_eq_getElem hpos, getElem_append_self _ _ (Nat.mod_lt _ hpos)]
  simp only [Nat.mod_mod_of_dvd _ hdvd]

/-- Settles O20: the key enters the schedule by its chunks, and the chunks of a key and of its double are the same
bytes. -/
theorem scheduleDependsOnChunksOnly : Obligations.ScheduleDependsOnChunksOnly := by
  unfold Obligations.ScheduleDependsOnChunksOnly
  have hchunks : ∀ (cfg : Cfg) (key key' : Bytes), (∀ i, i < 18 → chunk key i = chunk key' i) →
      keySchedule cfg key = keySchedule cfg key' := fun cfg key key' h => by
    rw [keySchedule_eq, keySchedule_eq, keyedConstants_congr h]
  refine ⟨hchunks, fun cfg key h => hchunks cfg _ _ fun i _ => ?_⟩
  simp only [chunk, keyByteAt_append_self h]

/-! ### The pairs of entries, numbered (R84) -/

/-- The place of a pair among the 521: the nine of the subkey array, then 128 of each table. -/
def EntryPair.number : EntryPair → Nat
  | .subkeys i => i.val
  | .table k i => 9 + 128 * k.val + i.val

/-- The pairs stand in the order of their numbers: the range of 521 falls into one of 9 and four of 128. -/
theorem entryPairs_map_number : entryPairs.map EntryPair.number = List.range 521 := by
  have hsplit : (521 : Nat) = 9 + 128 + 128 + 128 + 128 := rfl
  rw [hsplit, List.range_add, List.range_add, List.range_add, List.range_add, ← List.map_coe_finRange_eq_range,
    ← List.map_coe_finRange_eq_range]
  simp only [entryPairs, List.map_append, List.map_map]
  rfl

theorem number_getElem_entryPairs {j : Nat} (h : j < entryPairs.length) : entryPairs[j].number = j := by
  have hj := congrArg (·[j]?) entryPairs_map_number
  simpa [h, entryPairs_length ▸ h] using hj

/-- Storing over a pair writes entries `2n` and `2n + 1` of the subkey array, for the pair's number `n`; for the pairs
of the tables there are no such entries. -/
theorem storePair_P_get (k : Schedule) (e : EntryPair) (lr : W32 × W32) (i : Fin 18) :
    (storePair k e lr).P.get i =
      if i.val = 2 * e.number then lr.1
      else if i.val = 2 * e.number + 1 then lr.2
      else k.P.get i := by
  cases e with
  | subkeys n =>
    simp only [storePair, EntryPair.number, Vector.get_eq_getElem, Vector.getElem_set]
    grind
  | table t n =>
    have heven : i.val ≠ 2 * (EntryPair.table t n).number := by simp only [EntryPair.number]; omega
    have hodd : i.val ≠ 2 * (EntryPair.table t n).number + 1 := by simp only [EntryPair.number]; omega
    rw [if_neg heven, if_neg hodd, storePair]

/-- Storing over a pair with number `n` past the nine of the subkey array writes two entries of table
`(n - 9) / 128`. -/
theorem storePair_S_get (k : Schedule) (e : EntryPair) (lr : W32 × W32) (t : Fin 4) (i : Fin 256) :
    ((storePair k e lr).S.get t).get i =
      if 9 ≤ e.number ∧ t.val = (e.number - 9) / 128 ∧ i.val = 2 * ((e.number - 9) % 128) then lr.1
      else if 9 ≤ e.number ∧ t.val = (e.number - 9) / 128 ∧ i.val = 2 * ((e.number - 9) % 128) + 1 then lr.2
      else (k.S.get t).get i := by
  cases e with
  | subkeys n =>
    have hn : ¬ 9 ≤ (EntryPair.subkeys n).number := by simp only [EntryPair.number]; omega
    simp only [hn, false_and, if_false, storePair]
  | table u n =>
    have hle : 9 ≤ (EntryPair.table u n).number := by simp only [EntryPair.number]; omega
    have hdiv : ((EntryPair.table u n).number - 9) / 128 = u.val := by simp only [EntryPair.number]; omega
    have hmod : ((EntryPair.table u n).number - 9) % 128 = n.val := by simp only [EntryPair.number]; omega
    simp only [hle, hdiv, hmod, true_and, storePair, Vector.get_eq_getElem, Vector.getElem_set]
    grind

/-! ### The chain of encryptions (R84) -/

/-- The arrays and the running block after the first `j` of the 521 replacements. -/
def scheduleChain (cfg : Cfg) (key : Bytes) (j : Nat) : Schedule × (W32 × W32) :=
  (entryPairs.take j).foldl replacePair (keyedConstants cfg key, (0, 0))

section Chain

variable (cfg : Cfg) (key : Bytes)

@[simp] theorem scheduleChain_zero : scheduleChain cfg key 0 = (keyedConstants cfg key, (0, 0)) := rfl

/-- One more link replaces the pair with the link's number. -/
theorem scheduleChain_succ {j : Nat} (h : j < 521) :
    ∃ e : EntryPair, e.number = j ∧ scheduleChain cfg key (j + 1) = replacePair (scheduleChain cfg key j) e := by
  have hj : j < entryPairs.length := entryPairs_length ▸ h
  refine ⟨entryPairs[j], number_getElem_entryPairs hj, ?_⟩
  rw [scheduleChain, List.take_succ_eq_append_getElem hj, List.foldl_append]
  rfl

/-- All 521 links make the schedule. -/
theorem scheduleChain_all : (scheduleChain cfg key 521).1 = keySchedule cfg key := by
  rw [keySchedule_eq, scheduleChain, ← entryPairs_length, List.take_length]

end Chain

/-- Settles O19: the arrays and blocks of the chain; each link stores over the pair of its number. -/
theorem scheduleChainsEncryptions : Obligations.ScheduleChainsEncryptions := by
  unfold Obligations.ScheduleChainsEncryptions
  intro cfg key
  refine ⟨fun j => (scheduleChain cfg key j).1, fun j => (scheduleChain cfg key j).2, fun i => ?_, rfl, rfl,
    fun j hj => ?_, fun j hj i => ?_, fun j hj t i => ?_, (scheduleChain_all cfg key).symm⟩
  · simp [keyedConstants, Vector.get_eq_getElem]
  all_goals obtain ⟨e, rfl, he⟩ := scheduleChain_succ cfg key hj
  · simp only [he, replacePair]
  · simp only [he, replacePair, storePair_P_get]
  · simp only [he, replacePair, storePair_S_get]

end Sys2Proof.Machine

/-! ## The cipher data commands: the rules of 42_cipher_block.md -/

namespace Sys2Proof.Machine

/-! ### The round function (R95) -/

/-- The entry a byte selects, as an entry of the table's list of words. -/
theorem tableEntry_eq_getD (S : Vector (Vector W32 256) 4) (k : Fin 4) (b : Byte) :
    tableEntry S k b = S[k].toList.getD b.toNat 0 := by
  have hb : b.toNat < S[k].toList.length := by simpa using b.isLt
  rw [List.getD_eq_getElem _ _ hb]
  rfl

/-- Settles O26: the entries are selected by the bytes of `x`, and words add modulo 2^32. -/
theorem roundFunctionOfTableBytes : Obligations.RoundFunctionOfTableBytes := by
  unfold Obligations.RoundFunctionOfTableBytes
  intro S x
  have htop : x.toNat / 0x1000000 % 256 = x.toNat / 0x1000000 := by omega
  simp [roundF, tableEntry_eq_getD, byteOfHalf_toNat, htop]

/-! ### `Dec` is `Enc` with the subkeys reversed (R98), so each inverts the other (R101) -/

/-- The schedule with `P[17-i]` in place of `P[i]`. -/
def Schedule.reverseP (k : Schedule) : Schedule := { k with P := k.P.reverse }

@[simp] theorem Schedule.reverseP_S (k : Schedule) : k.reverseP.S = k.S := rfl

@[simp] theorem Schedule.reverseP_P_get (k : Schedule) (n : Fin 18) : k.reverseP.P.get n = k.P.get n.rev := by
  simp [Schedule.reverseP, Vector.get_eq_getElem]

@[simp] theorem Schedule.reverseP_reverseP (k : Schedule) : k.reverseP.reverseP = k := by
  simp [Schedule.reverseP]

/-- Round `n` of `Dec` is round `17-n` of `Enc` with the subkeys reversed: the two numbers differ in parity. -/
theorem decRound_eq_encRound_rev (k : Schedule) (lr : W32 × W32) (n : Fin 18) :
    decRound k lr n = encRound k.reverseP lr n.rev := by
  by_cases h : n.val % 2 = 1
  · have hrev : ¬ n.rev.val % 2 = 1 := by rw [Fin.val_rev]; omega
    rw [decRound, encRound, if_pos h, if_neg hrev, Schedule.reverseP_S, Schedule.reverseP_P_get, Fin.rev_rev]
  · have hrev : n.rev.val % 2 = 1 := by rw [Fin.val_rev]; omega
    rw [decRound, encRound, if_neg h, if_pos hrev, Schedule.reverseP_S, Schedule.reverseP_P_get, Fin.rev_rev]

theorem rounds_reverse : rounds.reverse = rounds.map Fin.rev := by decide

theorem dec_eq_enc_reverseP (k : Schedule) (lr : W32 × W32) : dec k lr = enc k.reverseP lr := by
  have hround : (fun (m : W32 × W32) (n : Fin 18) => decRound k m n.rev) = encRound k.reverseP := by
    funext m n
    rw [decRound_eq_encRound_rev, Fin.rev_rev]
  have hfirst : k.reverseP.P.get 0 = k.P.get 17 := k.reverseP_P_get 0
  have hlast : k.reverseP.P.get 17 = k.P.get 0 := k.reverseP_P_get 17
  rw [dec, enc, rounds_reverse, List.foldl_map, hround, hfirst, hlast]

/-- The other composition is the first, of the reversed subkeys. -/
theorem enc_dec (k : Schedule) (lr : W32 × W32) : enc k (dec k lr) = lr :=
  calc enc k (dec k lr)
    _ = dec k.reverseP (enc k.reverseP lr) := by
      rw [dec_eq_enc_reverseP k, dec_eq_enc_reverseP k.reverseP, Schedule.reverseP_reverseP]
    _ = lr := dec_enc _ _

/-- Settles O29: round by round, and at the two ends. -/
theorem decIsEncWithReversedSubkeys : Obligations.DecIsEncWithReversedSubkeys := by
  unfold Obligations.DecIsEncWithReversedSubkeys
  exact dec_eq_enc_reverseP

/-- Settles O27: each function is a left inverse of the other. -/
theorem encAndDecAreInverse : Obligations.EncAndDecAreInverse := by
  unfold Obligations.EncAndDecAreInverse
  intro k
  exact ⟨dec_enc k, enc_dec k, Function.bijective_iff_has_inverse.2 ⟨dec k, dec_enc k, enc_dec k⟩⟩

/-! ### The form that exchanges the halves in every round (R102) -/

/-- The halves of `Enc` after its round `n`, as the exchange-every-round form holds them before its round `n`: exchanged
for odd `n`, and with that round's subkey not yet in the half that is now the left. -/
def swapForm (k : Schedule) (n : Fin 18) (m : W32 × W32) : W32 × W32 :=
  if n.val % 2 = 1 then (m.2 ^^^ k.P.get n, m.1) else (m.1 ^^^ k.P.get n, m.2)

/-- A round of the one form on its halves is the next round of the other on its own. -/
theorem swapRound_swapForm (k : Schedule) (m : W32 × W32) {n n' : Fin 18} (h : n'.val = n.val + 1) :
    swapRound k (swapForm k n m) n = swapForm k n' (encRound k m n') := by
  by_cases hn : n.val % 2 = 1
  · have hn' : ¬ n'.val % 2 = 1 := by omega
    simp [swapRound, swapForm, encRound, hn, hn', BitVec.xor_assoc]
  · have hn' : n'.val % 2 = 1 := by omega
    simp [swapRound, swapForm, encRound, hn, hn', BitVec.xor_assoc]

/-- Successive rounds: those of `Enc` from `n + 1` on, and those of the other form from `n` on and one short. -/
theorem foldl_swapRound_swapForm (k : Schedule) (n : Fin 18) (ns : List (Fin 18)) (m : W32 × W32)
    (h : (n :: ns).IsChain fun a b => b.val = a.val + 1) :
    (n :: ns).dropLast.foldl (swapRound k) (swapForm k n m) =
      swapForm k ((n :: ns).getLast (List.cons_ne_nil n ns)) (ns.foldl (encRound k) m) := by
  induction ns generalizing n m with
  | nil => rfl
  | cons n' ns ih =>
    obtain ⟨hn, hns⟩ := List.isChain_cons_cons.1 h
    rw [List.dropLast_cons_cons, List.foldl_cons, swapRound_swapForm k m hn, ih n' _ hns, List.foldl_cons,
      List.getLast_cons_cons]

/-- Settles O28: before its round 0 and after its round 15 the other form holds the halves of `Enc` as `swapForm`
says. -/
theorem encIsSwapEveryRoundForm : Obligations.EncIsSwapEveryRoundForm := by
  unfold Obligations.EncIsSwapEveryRoundForm
  intro k lr
  have hstart : swapForm k 0 (lr.1 ^^^ k.P.get 0, lr.2) = lr := by simp [swapForm]
  have hrounds := foldl_swapRound_swapForm k 0 rounds (lr.1 ^^^ k.P.get 0, lr.2) (by decide)
  have hlast : (0 :: rounds).getLast (List.cons_ne_nil 0 rounds) = 16 := rfl
  have hlist : (0 :: rounds).dropLast = [0, 1, 2, 3, 4, 5, 6, 7, 8, 9, 10, 11, 12, 13, 14, 15] := rfl
  rw [hstart, hlast, hlist] at hrounds
  rw [encSwapEveryRound, hrounds]
  simp [enc, swapForm]

/-! ### ENCIPHER and DECIPHER (R96, R99, R100) -/

/-- Settles O30: both commands are the common form with their block function. -/
theorem blockCommandsAnswer : Obligations.BlockCommandsAnswer := by
  unfold Obligations.BlockCommandsAnswer
  intro s left right hf hk
  exact ⟨runBlock_keyed hf hk enc left right, runBlock_keyed hf hk dec left right⟩

/-- Settles O31: DECIPHER runs with the arrays ENCIPHER ran with, and `Dec` inverts `Enc`. -/
theorem decipherUndoesEncipher : Obligations.DecipherUndoesEncipher := by
  unfold Obligations.DecipherUndoesEncipher
  intro s left right hf hk
  refine ⟨_, _, _, runBlock_keyed hf hk enc left right, rfl, ?_⟩
  refine (exec_deliver ..).trans ((runBlock_keyed hf hk dec ..).trans ?_)
  rw [Prod.mk.eta, dec_enc]
  rfl

/-- ENCIPHER and DECIPHER on an unkeyed block without a fault (R96). -/
theorem runBlock_unkeyed {s : State} (hf : s.fault = 0) (hk : s.keyed = false)
    (f : Schedule → W32 × W32 → W32 × W32) (left right : W32) :
    runBlock f left right s = .next (s.raise .notKeyed) := by
  rw [runBlock, unlessFaulted_clear hf, whenKeyed_unkeyed hk]

/-- XFORM on an unkeyed block without a fault, for every length (R96, R201). -/
theorem runXform_unkeyed {s : State} (hf : s.fault = 0) (hk : s.keyed = false)
    (f : Schedule → W32 × W32 → W32 × W32) (buf : Bytes) :
    runXform f buf s = .next (s.raise .notKeyed) := by
  rw [runXform, unlessFaulted_clear hf, whenKeyed_unkeyed hk]

/-- Settles O32: the two common forms on an unkeyed block. -/
theorem unkeyedDataCommandsRaise : Obligations.UnkeyedDataCommandsRaise := by
  unfold Obligations.UnkeyedDataCommandsRaise
  intro i s hi hf hk
  obtain ⟨left, right, rfl⟩ | ⟨left, right, rfl⟩ | ⟨buf, rfl⟩ | ⟨buf, rfl⟩ := hi
  · exact runBlock_unkeyed hf hk enc left right
  · exact runBlock_unkeyed hf hk dec left right
  · exact runXform_unkeyed hf hk enc buf
  · exact runXform_unkeyed hf hk dec buf

/-! ### XFORM slice by slice (R103, R104) -/

/-- Slice `j` of the transform is the block function of slice `j`. -/
theorem xform_slice_at (order : BlockOrder) (f : W32 × W32 → W32 × W32) {buf : Bytes} (h : buf.length % 8 = 0)
    {j : Nat} (hj : j < buf.length / 8) :
    ((xform order f buf).drop (8 * j)).take 8 = unhalves order (f (sliceHalves order buf j)) := by
  induction buf, h using slices_induction generalizing j with
  | nil => simp at hj
  | slice b0 b1 b2 b3 b4 b5 b6 b7 rest hr ih =>
    rw [xform_slice]
    cases j with
    | zero => exact List.take_left' (unhalves_length _ _)
    | succ j =>
      have hdrop : ∀ lr tail, (unhalves order lr ++ tail).drop (8 * (j + 1)) = tail.drop (8 * j) := fun lr tail => by
        rw [Nat.mul_succ, Nat.add_comm, ← unhalves_length order lr, List.drop_length_add_append]
      rw [hdrop, ih (by simp at hj; omega)]
      rfl

/-- Settles O34: the common form of XFORM with `Enc`, on each of the three conditions. -/
theorem xformEncTransformsSlices : Obligations.XformEncTransformsSlices := by
  unfold Obligations.XformEncTransformsSlices
  intro s buf hf
  exact ⟨fun hk hb => ⟨_, runXform_keyed hf hk enc hb, xform_length _ _ hb, fun _ hj => xform_slice_at _ _ hb hj⟩,
    fun hk hb => runXform_badLength hf hk enc hb, fun hk => runXform_unkeyed hf hk enc buf⟩

/-- Settles O35: the common form of XFORM with `Dec`, on each of the three conditions. -/
theorem xformDecTransformsSlices : Obligations.XformDecTransformsSlices := by
  unfold Obligations.XformDecTransformsSlices
  intro s buf hf
  exact ⟨fun hk hb => ⟨_, runXform_keyed hf hk dec hb, xform_length _ _ hb, fun _ hj => xform_slice_at _ _ hb hj⟩,
    fun hk hb => runXform_badLength hf hk dec hb, fun hk => runXform_unkeyed hf hk dec buf⟩

/-! ### The laws of the transform (R105) -/

/-- Two XFORMs, one after the other, with block functions of which the second inverts the first. -/
theorem runXform_runXform {f g : Schedule → W32 × W32 → W32 × W32} (hgf : ∀ k lr, g k (f k lr) = lr) {s : State}
    (hf : s.fault = 0) (hk : s.keyed = true) {buf : Bytes} (hb : buf.length % 8 = 0) :
    runXform g (xform s.cfg.blockOrder (f s.schedule) buf) s = .next (s.deliver (.out buf)) := by
  rw [runXform_keyed hf hk g (by rw [xform_length _ _ hb, hb]), xform_xform (hgf s.schedule) _ hb]

/-- Settles O36: the second command does not read the first one's answer on the port, and its block function is the
inverse of the first's. -/
theorem xformRoundTrips : Obligations.XformRoundTrips := by
  unfold Obligations.XformRoundTrips
  intro s buf hf hk hb
  exact ⟨⟨_, _, runXform_keyed hf hk enc hb, rfl, (exec_deliver _ _ _).trans (runXform_runXform dec_enc hf hk hb)⟩,
    ⟨_, _, runXform_keyed hf hk dec hb, rfl, (exec_deliver _ _ _).trans (runXform_runXform enc_dec hf hk hb)⟩⟩

/-- Settles O37: by induction on the slices of the first part. -/
theorem xformOfConcatenation : Obligations.XformOfConcatenation := by
  unfold Obligations.XformOfConcatenation
  intro order f a b h
  induction a, h using slices_induction with
  | nil => rw [xform_nil, List.nil_append, List.nil_append]
  | slice b0 b1 b2 b3 b4 b5 b6 b7 rest _ ih =>
    simp only [List.cons_append, xform_slice, ih, List.append_assoc]

/-- Settles O38: a half read, or written, in one order is the half read, or written, in the other with its four bytes
reversed. -/
theorem xformByteOrdersAgree : Obligations.XformByteOrdersAgree := by
  unfold Obligations.XformByteOrdersAgree
  intro rev4 hnil hslice f buf h
  have hread : ∀ b0 b1 b2 b3 : Byte, halfOfBytes .little b0 b1 b2 b3 = halfOfBytes .big b3 b2 b1 b0 :=
    fun _ _ _ _ => rfl
  have hwrite : ∀ (lr : W32 × W32) (rest : Bytes),
      rev4 (unhalves .big lr ++ rest) = unhalves .little lr ++ rev4 rest :=
    fun _ _ => hslice ..
  induction buf, h using slices_induction with
  | nil => rw [hnil, xform_nil, xform_nil, hnil]
  | slice b0 b1 b2 b3 b4 b5 b6 b7 rest _ ih =>
    rw [hslice, xform_slice, xform_slice, hwrite, ← ih, hread, hread]

/-- The transform of one slice, written from its two halves. -/
theorem xform_unhalves (order : BlockOrder) (f : W32 × W32 → W32 × W32) (lr : W32 × W32) :
    xform order f (unhalves order lr) = unhalves order (f lr) := by
  simpa using xform_unhalves_append order f lr []

/-- Settles O39: XFORM_ENC of the one slice written from the two words. -/
theorem xformAgreesWithEncipher : Obligations.XformAgreesWithEncipher := by
  unfold Obligations.XformAgreesWithEncipher
  intro s left right hf hk
  refine ⟨_, _, runBlock_keyed hf hk enc left right, (runXform_keyed hf hk enc (by simp)).trans ?_⟩
  rw [xform_unhalves]
  rfl

end Sys2Proof.Machine

/-! ## The framer: the rules of 43_framer.md -/

namespace Sys2Proof.Machine

/-! ### ENCODE and DECODE without a fault (R122, R126) -/

/-- ENCODE without a fault and with a payload past the mask (R122). -/
theorem execEncode_tooLong {s : State} (hf : s.fault = 0) {payload : Bytes}
    (hp : (maskWord s.cfg.lenMask).toNat < payload.length) (id : W16) (encrypted : Bool)
    (securityByte checksumByte : Byte) :
    execEncode id encrypted payload securityByte checksumByte s = .next (s.raise .framingError) := by
  rw [execEncode, unlessFaulted_clear hf, if_neg (Nat.not_le.2 hp)]

/-- DECODE without a fault, when the payload has another length than the length word says (R126). -/
theorem execDecode_lengthDiffers {s : State} (hf : s.fault = 0) {lengthWord : W16} {payload : Bytes}
    (hl : payload.length ≠ lengthField s.cfg.lenMask lengthWord) (idWord : W16) (count checksum : Byte) :
    execDecode lengthWord idWord count checksum payload s = .next (s.raise .framingError) := by
  rw [execDecode, unlessFaulted_clear hf, if_neg hl]

/-- Settles O42: 0x7FFF and 0x07FF are the two masks. -/
theorem encodeRefusesLongPayload : Obligations.EncodeRefusesLongPayload := by
  unfold Obligations.EncodeRefusesLongPayload
  intro s id encrypted payload securityByte checksumByte hf
  refine ⟨fun hm hp => execEncode_tooLong hf ?_ .., fun hm hp => execEncode_tooLong hf ?_ ..⟩
  · rwa [hm]
  · rwa [hm]

/-- Settles O44: the meaning of DECODE names neither operand. -/
theorem decodeIgnoresCountAndChecksum : Obligations.DecodeIgnoresCountAndChecksum := by
  unfold Obligations.DecodeIgnoresCountAndChecksum
  exact fun _ _ _ _ _ _ _ _ => rfl

/-- The flag is the top bit of the length word (R51). -/
theorem encryptedFlag_eq_decide (w : W16) : encryptedFlag w = decide (2 ^ 15 ≤ w.toNat) :=
  w.msb_eq_getLsbD_last.symm.trans w.msb_eq_decide

/-- Settles O43: the two outcomes of the length check, for either mask. -/
theorem decodeReturnsPacket : Obligations.DecodeReturnsPacket := by
  unfold Obligations.DecodeReturnsPacket
  intro s lengthWord idWord count checksum payload hf
  have hmod : ∀ m : LenMask,
      lengthWord.toNat % (match m with | .low15 => 2 ^ 15 | .low11 => 2 ^ 11) = lengthField m lengthWord := fun m => by
    cases m <;> rw [lengthField_eq_mod] <;> rfl
  rw [← encryptedFlag_eq_decide]
  exact ⟨fun hl => execDecode_lengthMatches hf (hl.trans (hmod _)) idWord count checksum,
    fun hl => execDecode_lengthDiffers hf (fun h => hl (h.trans (hmod _).symm)) idWord count checksum⟩

/-! ### The bits of the length word that are read (R51, R128) -/

/-- The bits of the length word that DECODE reads: those of the mask, and the flag. -/
def readBits (m : LenMask) : W16 := maskWord m ||| 0x8000

theorem maskWord_eq_readBits_and (m : LenMask) : maskWord m = readBits m &&& maskWord m := by
  cases m <;> rfl

@[simp] theorem lengthField_and_readBits (m : LenMask) (w : W16) :
    lengthField m (w &&& readBits m) = lengthField m w := by
  rw [lengthField, BitVec.and_assoc, ← maskWord_eq_readBits_and, lengthField]

@[simp] theorem encryptedFlag_and_readBits (m : LenMask) (w : W16) :
    encryptedFlag (w &&& readBits m) = encryptedFlag w := by
  have hflag : (readBits m).getLsbD 15 = true := by cases m <;> rfl
  rw [encryptedFlag, BitVec.getLsbD_and, hflag, Bool.and_true, encryptedFlag]

/-- Every bit of the low byte is read. -/
theorem lowByte_and_readBits (m : LenMask) (w : W16) :
    (w &&& readBits m).extractLsb' 0 8 = w.extractLsb' 0 8 := by
  have hones : (readBits m).extractLsb' 0 8 = BitVec.allOnes 8 := by cases m <;> rfl
  rw [BitVec.extractLsb'_and, hones, BitVec.and_allOnes]

/-- Under the mask 0x7FFF every bit is read. -/
theorem and_readBits_low15 (w : W16) : w &&& readBits .low15 = w := BitVec.and_allOnes

/-- Under the mask 0x07FF bits 6:3 of the high byte are not read. -/
theorem highByte_and_readBits_low11 (w : W16) :
    (w &&& readBits .low11).extractLsb' 8 8 = w.extractLsb' 8 8 &&& 0x87 := BitVec.extractLsb'_and

/-- DECODE reads no other bit of the length word. -/
theorem execDecode_and_readBits (s : State) (lengthWord idWord : W16) (count checksum : Byte) (payload : Bytes) :
    execDecode (lengthWord &&& readBits s.cfg.lenMask) idWord count checksum payload s =
      execDecode lengthWord idWord count checksum payload s := by
  by_cases hf : s.fault = 0
  · simp only [execDecode, unlessFaulted_clear hf, lengthField_and_readBits, encryptedFlag_and_readBits]
  · simp only [execDecode, unlessFaulted_latched hf]

/-- Settles O45: under the mask 0x07FF the bits that are read are those of 0x87FF. -/
theorem decodeIgnoresBits14To11 : Obligations.DecodeIgnoresBits14To11 := by
  unfold Obligations.DecodeIgnoresBits14To11
  intro s lengthWord lengthWord' idWord count checksum payload hm h
  have hbits : readBits s.cfg.lenMask = 0x87FF := by rw [hm]; rfl
  rw [← hbits] at h
  calc execDecode lengthWord idWord count checksum payload s
    _ = execDecode (lengthWord &&& readBits s.cfg.lenMask) idWord count checksum payload s :=
      (execDecode_and_readBits ..).symm
    _ = execDecode (lengthWord' &&& readBits s.cfg.lenMask) idWord count checksum payload s := by rw [h]
    _ = execDecode lengthWord' idWord count checksum payload s := execDecode_and_readBits ..

/-- The length word made from the length and the flag of a length word is that word without the bits that are not
read. -/
theorem makeLengthWord_lengthField (m : LenMask) (w : W16) :
    makeLengthWord (lengthField m w) (encryptedFlag w) = w &&& readBits m := by
  have hflag : (if encryptedFlag w then 0x8000 else 0) = w &&& 0x8000 := (BitVec.and_twoPow w 15).symm
  have hlength : BitVec.ofNat 16 (lengthField m w) = w &&& maskWord m := by
    rw [lengthField, BitVec.ofNat_toNat, BitVec.setWidth_eq]
  rw [makeLengthWord, hflag, hlength, readBits, BitVec.and_or_distrib_left]

/-! ### The bytes of a frame, from its fields (R50, R63) -/

theorem lowByte_toNat (w : W16) : (w.extractLsb' 0 8).toNat = w.toNat % 256 := by
  rw [BitVec.extractLsb'_toNat, Nat.shiftRight_zero]

theorem highByte_toNat (w : W16) : (w.extractLsb' 8 8).toNat = w.toNat / 256 := by
  rw [BitVec.extractLsb'_toNat, Nat.shiftRight_eq_div_pow]
  have := w.isLt
  omega

/-- The frame with these fields, laid out as R50 says. -/
def FrameFields.bytes (f : FrameFields) : Bytes :=
  bytesLe16 f.lengthWord ++ bytesLe16 f.idWord ++ [f.count, f.checksum] ++ f.payload

theorem bytesLe16_le16 (b0 b1 : Byte) : bytesLe16 (le16 b0 b1) = [b0, b1] := by
  have hlow : (le16 b0 b1).extractLsb' 0 8 = b0 := by
    apply BitVec.eq_of_toNat_eq
    have := b0.isLt
    rw [lowByte_toNat, le16_toNat]
    omega
  have hhigh : (le16 b0 b1).extractLsb' 8 8 = b1 := by
    apply BitVec.eq_of_toNat_eq
    have := b0.isLt
    rw [highByte_toNat, le16_toNat]
    omega
  rw [bytesLe16, hlow, hhigh]

/-- FrameSplit cuts a frame into the fields it is laid out from. -/
theorem bytes_of_frameSplit {frame : Bytes} {fields : FrameFields} (h : frameSplit frame = some fields) :
    frame = fields.bytes := by
  unfold frameSplit at h
  split at h
  · obtain rfl := Option.some.inj h
    simp only [FrameFields.bytes, bytesLe16_le16]
    rfl
  · cases h

/-- ENCODE lays out its frame from the length word, its operands and the checksum. -/
theorem buildFrame_eq_bytes (calculate : Bytes → Byte) (id : W16) (encrypted : Bool) (payload : Bytes)
    (securityByte checksumByte : Byte) :
    buildFrame calculate id encrypted payload securityByte checksumByte =
      FrameFields.bytes ⟨makeLengthWord payload.length encrypted, id, securityByte,
        calculate (frameWithPlaceholder id encrypted payload securityByte checksumByte), payload⟩ := rfl

namespace FrameFields

variable (f : FrameFields)

@[simp] theorem bytes_length : f.bytes.length = 6 + f.payload.length := by
  simp [bytes, bytesLe16]
  omega

@[simp] theorem bytes_getD_zero : f.bytes.getD 0 0 = f.lengthWord.extractLsb' 0 8 := rfl
@[simp] theorem bytes_getD_one : f.bytes.getD 1 0 = f.lengthWord.extractLsb' 8 8 := rfl

/-- From byte 2 on only byte 5 depends on the checksum, and none on the length word. -/
theorem bytes_getD_of_ne (lengthWord : W16) (checksum : Byte) {j : Nat} (h0 : j ≠ 0) (h1 : j ≠ 1) (h5 : j ≠ 5) :
    (bytes ⟨lengthWord, f.idWord, f.count, checksum, f.payload⟩).getD j 0 = f.bytes.getD j 0 := by
  match j with
  | 0 => exact absurd rfl h0
  | 1 => exact absurd rfl h1
  | 5 => exact absurd rfl h5
  | 2 | 3 | 4 | _ + 6 => rfl

end FrameFields

/-! ### The frame ENCODE answers (R123, R124) -/

/-- The length word of a payload that fits the mask, as a number (R123). -/
theorem makeLengthWord_toNat {m : LenMask} {n : Nat} (h : n ≤ (maskWord m).toNat) (encrypted : Bool) :
    (makeLengthWord n encrypted).toNat = n + if encrypted then 2 ^ 15 else 0 := by
  have hle : n ≤ (maskWord .low15).toNat := h.trans (by cases m <;> decide)
  have hlength : (makeLengthWord n encrypted).toNat % 2 ^ 15 = n :=
    (lengthField_eq_mod .low15 _).symm.trans (lengthField_makeLengthWord hle encrypted)
  have hflag := encryptedFlag_makeLengthWord h encrypted
  rw [encryptedFlag_eq_decide] at hflag
  have hlt := (makeLengthWord n encrypted).isLt
  split
  · next he =>
    have hge := of_decide_eq_true (hflag.trans he)
    omega
  · next he =>
    have hlt15 := of_decide_eq_false (hflag.trans (Bool.eq_false_of_not_eq_true he))
    omega

/-- Settles O40: the bytes of the fields ENCODE lays out. -/
theorem encodeBuildsFrame : Obligations.EncodeBuildsFrame := by
  unfold Obligations.EncodeBuildsFrame
  intro s id encrypted payload securityByte checksumByte hf hp
  have hword := makeLengthWord_toNat hp encrypted
  refine ⟨_, execEncode_fits hf hp id encrypted securityByte checksumByte, buildFrame_length .., ?_, ?_,
    lowByte_toNat id, highByte_toNat id, rfl, rfl, rfl⟩
  · rw [buildFrame_eq_bytes, FrameFields.bytes_getD_zero, lowByte_toNat, hword]
    split <;> omega
  · rw [buildFrame_eq_bytes, FrameFields.bytes_getD_one, highByte_toNat, hword]
    split <;> omega

/-! ### The two laws of the codec (R129) -/

/-- Settles O46: FrameSplit reads back the fields ENCODE has laid out, and the length word holds the length and the
flag. -/
theorem codecRoundTrips : Obligations.CodecRoundTrips := by
  unfold Obligations.CodecRoundTrips
  intro s id encrypted payload securityByte checksumByte hf hp
  refine ⟨_, _, _, execEncode_fits hf hp id encrypted securityByte checksumByte, rfl, frameSplit_buildFrame .., ?_⟩
  have hdecode := execDecode_lengthMatches hf (lengthField_makeLengthWord hp encrypted).symm id securityByte
    (s.cfg.calc (frameWithPlaceholder id encrypted payload securityByte checksumByte))
  rw [encryptedFlag_makeLengthWord hp] at hdecode
  exact (exec_deliver ..).trans hdecode

/-- A length read under the mask fits the mask. -/
theorem lengthField_le_maskWord (m : LenMask) (w : W16) : lengthField m w ≤ (maskWord m).toNat := by
  rw [lengthField, BitVec.toNat_and]
  exact Nat.and_le_right

/-- Settles O47: the new length word is the old one without the bits that are not read, and of the other bytes only the
checksum's is new. -/
theorem reframingGivesFrameBack : Obligations.ReframingGivesFrameBack := by
  unfold Obligations.ReframingGivesFrameBack
  intro s frame fields checksumByte hf hsplit hl
  obtain rfl := bytes_of_frameSplit hsplit
  have hp : fields.payload.length ≤ (maskWord s.cfg.lenMask).toNat := hl.trans_le (lengthField_le_maskWord ..)
  have hencode := execEncode_fits hf hp fields.idWord (encryptedFlag fields.lengthWord) fields.count checksumByte
  have hword := makeLengthWord_lengthField s.cfg.lenMask fields.lengthWord
  rw [buildFrame_eq_bytes, hl, hword] at hencode
  refine ⟨_, _, _, _, execDecode_lengthMatches hf hl fields.idWord fields.count fields.checksum, rfl,
    (exec_deliver ..).trans hencode, rfl, by simp, fun j h5 hj => ?_, fun hm => ?_⟩
  · by_cases h0 : j = 0
    · rw [h0]
      exact lowByte_and_readBits ..
    by_cases h1 : j = 1
    · rw [hj.resolve_right (not_not_intro h1), and_readBits_low15, h1]
      rfl
    exact fields.bytes_getD_of_ne _ _ h0 h1 h5
  · rw [hm]
    exact highByte_and_readBits_low11 _

end Sys2Proof.Machine

/-! ## Faults: the rules of 60_exceptions.md -/

namespace Sys2Proof.Machine

open Sys2Proof

/-! ### Opcodes outside the map (R197) -/

/-- The decoder names an opcode outside the map, whatever the operand record. -/
theorem decode_of_unlisted {c : Command}
    (h : c.opcode.toNat ∉ [0x01, 0x02, 0x03, 0x04, 0x05, 0x08, 0x09, 0x0F]) : decode c = .illegal c.opcode := by
  unfold decode
  split
  case h_9 => rfl
  all_goals simp [*] at h

/-- A command that decodes has the opcode of its instruction. -/
theorem opcode_of_decode {c : Command} {i : Instr} (h : decode c = .instr i) : c.opcode = (encode i).opcode := by
  by_cases hlisted : c.opcodeListed = true
  · obtain ⟨i', hdecode, hencode⟩ := exists_decode_of_opcodeListed hlisted
    obtain rfl : i' = i := Decoded.instr.inj (hdecode.symm.trans h)
    rw [hencode]
  · have hillegal : decode c = .illegal c.opcode := decode_of_unlisted (by simpa [Command.opcodeListed] using hlisted)
    simp [hillegal] at h

/-- On an unfaulted block an illegal opcode raises its fault. -/
theorem illegalCommand_clear {s : State} (hf : s.fault = 0) : illegalCommand s = .next (s.raise .illegalCommand) :=
  unlessFaulted_clear hf _

/-- Settles O11: an unlisted opcode decodes to no instruction, and on an unfaulted block that raises `IllegalCommand`. -/
theorem illegalOpcodeRaises : Obligations.IllegalOpcodeRaises := by
  unfold Obligations.IllegalOpcodeRaises
  intro s c rest hp hf hop
  exact (step_illegal hp (decode_of_unlisted hop)).trans (illegalCommand_clear hf)

/-! ### The latched fault (R196) -/

theorem illegalCommand_latched {s : State} (hf : s.fault ≠ 0) : illegalCommand s = .next s.refuseLatched :=
  unlessFaulted_latched hf _

/-- Settles O12: legal or illegal, the command meets the latched-fault check first; only STATUS does without it. -/
theorem faultedBlockRefuses : Obligations.FaultedBlockRefuses := by
  unfold Obligations.FaultedBlockRefuses
  intro s c rest hp hf hop
  match hd : decode c with
  | .instr i =>
    have hi : i ≠ .status := by
      rintro rfl
      exact hop (opcode_of_decode hd)
    exact (step_instr hp hd).trans (exec_latched hf hi)
  | .illegal op => exact (step_illegal hp hd).trans (illegalCommand_latched hf)

/-! ### Precise faults (R191) -/

/-- Settles O13: of the effects of a step only a fault raised and a refusal answer a code, and both leave all else as it
was. -/
theorem faultsArePrecise : Obligations.FaultsArePrecise := by
  unfold Obligations.FaultsArePrecise
  intro s t c rest code hp h hresp
  cases stepEffect_of_step h with
  | waits hp' => simp [hp] at hp'
  | resets hp' => simp [hp] at hp'
  | answers => simp at hresp
  | installs => simp at hresp
  | raises hp' =>
    obtain ⟨-, rfl⟩ := List.cons.inj (hp.symm.trans hp')
    cases hresp
    rfl
  | refuses hp' =>
    obtain ⟨-, rfl⟩ := List.cons.inj (hp.symm.trans hp')
    cases hresp
    rfl

/-! ### The key length (R192) -/

/-- Settles O22: 32 to 448 bits are 4 to 56 bytes, and the check of the length comes before any write. -/
theorem initRefusesWrongKeyLength : Obligations.InitRefusesWrongKeyLength := by
  unfold Obligations.InitRefusesWrongKeyLength
  intro key s hf
  refine ⟨fun hbits => ?_, fun hmin hmax => ?_⟩
  · have hbytes : ¬ (4 ≤ key.length ∧ key.length ≤ 56) := by omega
    exact execInit_badKey hf (Bool.eq_false_iff.2 (mt (keyLegal_iff key).1 hbytes))
  · have hbytes : 4 ≤ key.length ∧ key.length ≤ 56 := by omega
    exact ⟨_, execInit_legal hf ((keyLegal_iff key).2 hbytes), hf, rfl⟩

end Sys2Proof.Machine

/-! ## Reset and liveness: the rules of 70_reset_and_hazards.md -/

namespace Sys2Proof.Machine

open Sys2Proof

/-! ### Every command is answered (R236, R237) -/

/-- Whatever a command does, it leaves a response (R58). -/
theorem exec_response {i : Instr} {s t : State} (h : exec i s = .next t) : ∃ r, t.response = some r := by
  obtain ⟨_, rfl, -⟩ | ⟨_, -, -, -, rfl⟩ | ⟨_, -, rfl, -⟩ | ⟨-, -, rfl⟩ := exec_cases h <;> exact ⟨_, rfl⟩

theorem illegalCommand_next (s : State) : ∃ t, illegalCommand s = .next t :=
  unlessFaulted_next s _

/-- No step stops the block (R237). -/
theorem step_next (s : State) : ∃ t, step s = .next t := by
  match hp : s.port with
  | [] => exact ⟨s, step_idle hp⟩
  | .reset :: rest => exact ⟨_, step_reset hp⟩
  | .command c :: rest =>
    match hd : decode c with
    | .instr i =>
      rw [step_instr hp hd]
      exact exec_next i _
    | .illegal op =>
      rw [step_illegal hp hd]
      exact illegalCommand_next _

@[simp] theorem State.withPort_port (s : State) (rest : List PortEvent) : (s.withPort rest).port = rest := rfl

/-- A step takes one event, where there is one: the events after it stay at the port (R38, log 1). -/
theorem step_port {s t : State} (h : step s = .next t) : t.port = s.port.tail := by
  cases stepEffect_of_step h <;> simp [*]

/-- Settles O7: there is always a next state, and a command's effect, whichever it is, leaves a response and takes that
command alone off the port. -/
theorem everyCommandIsAnswered : Obligations.EveryCommandIsAnswered := by
  unfold Obligations.EveryCommandIsAnswered
  refine ⟨fun i s => ?_, step_next, fun s c rest hp => ?_⟩
  · obtain ⟨t, ht⟩ := exec_next i s
    obtain ⟨r, hr⟩ := exec_response ht
    exact ⟨t, r, ht, hr⟩
  · obtain ⟨t, ht⟩ := step_next s
    have hport : t.port = rest := by rw [step_port ht, hp, List.tail_cons]
    obtain ⟨r, hr⟩ | ⟨-, hr⟩ := step_command_response hp ht
    · exact ⟨t, _, ht, hr, hport⟩
    · exact ⟨t, _, ht, hr, hport⟩

/-! ### The state right after reset, and the reset event (R220, R222) -/

/-- Settles O2: with `keyed = 0`, `fault = 0` and no response, each clause holds or has nothing to say. -/
theorem resetMeetsBlockInv : Obligations.ResetMeetsBlockInv := by
  unfold Obligations.ResetMeetsBlockInv
  exact
    { faultKnown := .inl State.reset_fault
      keyedMeansSchedule := by simp
      notKeyedLatch := fun _ => State.reset_keyed
      blockLengthLatch := fun h => absurd h.symm (FaultName.code_ne_zero _)
      responseLatched := nofun }

/-- Settles O4: the event writes all of `P`, `S`, `keyed`, `fault` and the response, and reads none of them. -/
theorem resetEventForgetsEverything : Obligations.ResetEventForgetsEverything := by
  unfold Obligations.ResetEventForgetsEverything
  intro s rest hp
  exact ⟨_, step_reset hp, rfl, rfl, rfl, rfl, rfl, fun _ _ _ _ _ => step_reset hp⟩

end Sys2Proof.Machine
